-- ==== Sys2Proof/Word.lean ====
section
/-!
DEFINITION. The machine's data widths (spec/00_scope.md R6, R19): byte 8 bits, word 16 bits, longword 32 bits,
address 24 bits. They are abbreviations of `BitVec`, so that its lemmas apply.
-/

namespace Sys2Proof

/-- A byte, 8 bits (R19). -/
abbrev Byte := BitVec 8

/-- A word, 16 bits (R19). -/
abbrev Word := BitVec 16

/-- A longword, 32 bits (R19). -/
abbrev Long := BitVec 32

/-- An address as the CPU computes it, 24 bits in both operating modes (R94). -/
abbrev Addr := BitVec 24

/-- A half byte, the unit in which spec/30_encoding.md R116 and R147 write encodings. -/
abbrev Nibble := BitVec 4

/-- The number of a general register ERn: the 3-bit field of spec/30_encoding.md R115. -/
abbrev ErNum := BitVec 3

/-- The number of an 8-bit register (R113) or of a 16-bit register (R114): a 4-bit field. -/
abbrev RegNum := BitVec 4

end Sys2Proof
end

