-- ==== Sys2Proof/Syntax.lean ====
section
/-!
DEFINITION. The instructions: one constructor per row of spec/opcode_table.json (spec/30_encoding.md R147), the two rows of
a Bcc and of BSR being the two forms of one operand (`BranchDisp`; log 37). A field is what the row's operands leave
open, in operand order: register numbers (`rd rs rn`, 4 bits, R113 and R114; `erd ers ern`, 3 bits, R115), immediates,
displacements, absolute addresses, bit numbers and the TRAPA number (R140 to R142).
-/

namespace Sys2Proof

/-- The displacement of Bcc and BSR, in its two forms: `d:8` (a 2-byte instruction) and `d:16` (4 bytes)
(spec/45_branch.md R361, R379). -/
inductive BranchDisp where
  | d8 (d : Byte)
  | d16 (d : Word)
deriving DecidableEq, Repr

/-- An instruction of the H8/300H. -/
inductive Instr where
  -- Data transfer (spec/40_data_transfer.md)
  /-- `MOV.B #xx:8,Rd` (R171) -/
  | movBImm (imm : Byte) (rd : RegNum)
  /-- `MOV.B Rs,Rd` (R172) -/
  | movBReg (rs : RegNum) (rd : RegNum)
  /-- `MOV.B @ERs,Rd` (R173) -/
  | movBLdInd (ers : ErNum) (rd : RegNum)
  /-- `MOV.B @(d:16,ERs),Rd` (R173) -/
  | movBLdDisp16 (disp : Word) (ers : ErNum) (rd : RegNum)
  /-- `MOV.B @(d:24,ERs),Rd` (R173) -/
  | movBLdDisp24 (disp : BitVec 24) (ers : ErNum) (rd : RegNum)
  /-- `MOV.B @ERs+,Rd` (R173) -/
  | movBLdInc (ers : ErNum) (rd : RegNum)
  /-- `MOV.B @aa:8,Rd` (R173) -/
  | movBLdAbs8 (abs : Byte) (rd : RegNum)
  /-- `MOV.B @aa:16,Rd` (R173) -/
  | movBLdAbs16 (abs : Word) (rd : RegNum)
  /-- `MOV.B @aa:24,Rd` (R173) -/
  | movBLdAbs24 (abs : BitVec 24) (rd : RegNum)
  /-- `MOV.B Rs,@ERd` (R174) -/
  | movBStInd (rs : RegNum) (erd : ErNum)
  /-- `MOV.B Rs,@(d:16,ERd)` (R174) -/
  | movBStDisp16 (rs : RegNum) (disp : Word) (erd : ErNum)
  /-- `MOV.B Rs,@(d:24,ERd)` (R174) -/
  | movBStDisp24 (rs : RegNum) (disp : BitVec 24) (erd : ErNum)
  /-- `MOV.B Rs,@-ERd` (R174) -/
  | movBStDec (rs : RegNum) (erd : ErNum)
  /-- `MOV.B Rs,@aa:8` (R174) -/
  | movBStAbs8 (rs : RegNum) (abs : Byte)
  /-- `MOV.B Rs,@aa:16` (R174) -/
  | movBStAbs16 (rs : RegNum) (abs : Word)
  /-- `MOV.B Rs,@aa:24` (R174) -/
  | movBStAbs24 (rs : RegNum) (abs : BitVec 24)
  /-- `MOV.W #xx:16,Rd` (R175) -/
  | movWImm (imm : Word) (rd : RegNum)
  /-- `MOV.W Rs,Rd` (R176) -/
  | movWReg (rs : RegNum) (rd : RegNum)
  /-- `MOV.W @ERs,Rd` (R177) -/
  | movWLdInd (ers : ErNum) (rd : RegNum)
  /-- `MOV.W @(d:16,ERs),Rd` (R177) -/
  | movWLdDisp16 (disp : Word) (ers : ErNum) (rd : RegNum)
  /-- `MOV.W @(d:24,ERs),Rd` (R177) -/
  | movWLdDisp24 (disp : BitVec 24) (ers : ErNum) (rd : RegNum)
  /-- `MOV.W @ERs+,Rd` (R177) -/
  | movWLdInc (ers : ErNum) (rd : RegNum)
  /-- `MOV.W @aa:16,Rd` (R177) -/
  | movWLdAbs16 (abs : Word) (rd : RegNum)
  /-- `MOV.W @aa:24,Rd` (R177) -/
  | movWLdAbs24 (abs : BitVec 24) (rd : RegNum)
  /-- `MOV.W Rs,@ERd` (R178) -/
  | movWStInd (rs : RegNum) (erd : ErNum)
  /-- `MOV.W Rs,@(d:16,ERd)` (R178) -/
  | movWStDisp16 (rs : RegNum) (disp : Word) (erd : ErNum)
  /-- `MOV.W Rs,@(d:24,ERd)` (R178) -/
  | movWStDisp24 (rs : RegNum) (disp : BitVec 24) (erd : ErNum)
  /-- `MOV.W Rs,@-ERd` (R178) -/
  | movWStDec (rs : RegNum) (erd : ErNum)
  /-- `MOV.W Rs,@aa:16` (R178) -/
  | movWStAbs16 (rs : RegNum) (abs : Word)
  /-- `MOV.W Rs,@aa:24` (R178) -/
  | movWStAbs24 (rs : RegNum) (abs : BitVec 24)
  /-- `MOV.L #xx:32,ERd` (R179) -/
  | movLImm (imm : Long) (erd : ErNum)
  /-- `MOV.L ERs,ERd` (R180) -/
  | movLReg (ers : ErNum) (erd : ErNum)
  /-- `MOV.L @ERs,ERd` (R181) -/
  | movLLdInd (ers : ErNum) (erd : ErNum)
  /-- `MOV.L @(d:16,ERs),ERd` (R181) -/
  | movLLdDisp16 (disp : Word) (ers : ErNum) (erd : ErNum)
  /-- `MOV.L @(d:24,ERs),ERd` (R181) -/
  | movLLdDisp24 (disp : BitVec 24) (ers : ErNum) (erd : ErNum)
  /-- `MOV.L @ERs+,ERd` (R181) -/
  | movLLdInc (ers : ErNum) (erd : ErNum)
  /-- `MOV.L @aa:16,ERd` (R181) -/
  | movLLdAbs16 (abs : Word) (erd : ErNum)
  /-- `MOV.L @aa:24,ERd` (R181) -/
  | movLLdAbs24 (abs : BitVec 24) (erd : ErNum)
  /-- `MOV.L ERs,@ERd` (R182) -/
  | movLStInd (ers : ErNum) (erd : ErNum)
  /-- `MOV.L ERs,@(d:16,ERd)` (R182) -/
  | movLStDisp16 (ers : ErNum) (disp : Word) (erd : ErNum)
  /-- `MOV.L ERs,@(d:24,ERd)` (R182) -/
  | movLStDisp24 (ers : ErNum) (disp : BitVec 24) (erd : ErNum)
  /-- `MOV.L ERs,@-ERd` (R182) -/
  | movLStDec (ers : ErNum) (erd : ErNum)
  /-- `MOV.L ERs,@aa:16` (R182) -/
  | movLStAbs16 (ers : ErNum) (abs : Word)
  /-- `MOV.L ERs,@aa:24` (R182) -/
  | movLStAbs24 (ers : ErNum) (abs : BitVec 24)
  /-- `PUSH.W Rn` (R183) -/
  | pushW (rn : RegNum)
  /-- `PUSH.L ERn` (R184) -/
  | pushL (ern : ErNum)
  /-- `POP.W Rn` (R185) -/
  | popW (rn : RegNum)
  /-- `POP.L ERn` (R186) -/
  | popL (ern : ErNum)
  -- Arithmetic (spec/41_arithmetic.md)
  /-- `ADD.B #xx:8,Rd` (R210) -/
  | addBImm (imm : Byte) (rd : RegNum)
  /-- `ADD.B Rs,Rd` (R210) -/
  | addBReg (rs : RegNum) (rd : RegNum)
  /-- `ADD.W #xx:16,Rd` (R211) -/
  | addWImm (imm : Word) (rd : RegNum)
  /-- `ADD.W Rs,Rd` (R211) -/
  | addWReg (rs : RegNum) (rd : RegNum)
  /-- `ADD.L #xx:32,ERd` (R212) -/
  | addLImm (imm : Long) (erd : ErNum)
  /-- `ADD.L ERs,ERd` (R212) -/
  | addLReg (ers : ErNum) (erd : ErNum)
  /-- `SUB.B Rs,Rd` (R213) -/
  | subBReg (rs : RegNum) (rd : RegNum)
  /-- `SUB.W #xx:16,Rd` (R214) -/
  | subWImm (imm : Word) (rd : RegNum)
  /-- `SUB.W Rs,Rd` (R214) -/
  | subWReg (rs : RegNum) (rd : RegNum)
  /-- `SUB.L #xx:32,ERd` (R215) -/
  | subLImm (imm : Long) (erd : ErNum)
  /-- `SUB.L ERs,ERd` (R215) -/
  | subLReg (ers : ErNum) (erd : ErNum)
  /-- `ADDX.B #xx:8,Rd` (R216) -/
  | addxBImm (imm : Byte) (rd : RegNum)
  /-- `ADDX.B Rs,Rd` (R216) -/
  | addxBReg (rs : RegNum) (rd : RegNum)
  /-- `SUBX.B #xx:8,Rd` (R217) -/
  | subxBImm (imm : Byte) (rd : RegNum)
  /-- `SUBX.B Rs,Rd` (R217) -/
  | subxBReg (rs : RegNum) (rd : RegNum)
  /-- `INC.B Rd` (R218) -/
  | incB (rd : RegNum)
  /-- `INC.W #1,Rd` (R219) -/
  | incW1 (rd : RegNum)
  /-- `INC.W #2,Rd` (R219) -/
  | incW2 (rd : RegNum)
  /-- `INC.L #1,ERd` (R220) -/
  | incL1 (erd : ErNum)
  /-- `INC.L #2,ERd` (R220) -/
  | incL2 (erd : ErNum)
  /-- `DEC.B Rd` (R221) -/
  | decB (rd : RegNum)
  /-- `DEC.W #1,Rd` (R222) -/
  | decW1 (rd : RegNum)
  /-- `DEC.W #2,Rd` (R222) -/
  | decW2 (rd : RegNum)
  /-- `DEC.L #1,ERd` (R223) -/
  | decL1 (erd : ErNum)
  /-- `DEC.L #2,ERd` (R223) -/
  | decL2 (erd : ErNum)
  /-- `ADDS #1,ERd` (R224) -/
  | adds1 (erd : ErNum)
  /-- `ADDS #2,ERd` (R224) -/
  | adds2 (erd : ErNum)
  /-- `ADDS #4,ERd` (R224) -/
  | adds4 (erd : ErNum)
  /-- `SUBS #1,ERd` (R225) -/
  | subs1 (erd : ErNum)
  /-- `SUBS #2,ERd` (R225) -/
  | subs2 (erd : ErNum)
  /-- `SUBS #4,ERd` (R225) -/
  | subs4 (erd : ErNum)
  /-- `DAA Rd` (R226) -/
  | daa (rd : RegNum)
  /-- `DAS Rd` (R227) -/
  | das (rd : RegNum)
  /-- `MULXU.B Rs,Rd` (R228) -/
  | mulxuB (rs : RegNum) (rd : RegNum)
  /-- `MULXU.W Rs,ERd` (R229) -/
  | mulxuW (rs : RegNum) (erd : ErNum)
  /-- `DIVXU.B Rs,Rd` (R230) -/
  | divxuB (rs : RegNum) (rd : RegNum)
  /-- `DIVXU.W Rs,ERd` (R231) -/
  | divxuW (rs : RegNum) (erd : ErNum)
  /-- `MULXS.B Rs,Rd` (R232) -/
  | mulxsB (rs : RegNum) (rd : RegNum)
  /-- `MULXS.W Rs,ERd` (R233) -/
  | mulxsW (rs : RegNum) (erd : ErNum)
  /-- `DIVXS.B Rs,Rd` (R234) -/
  | divxsB (rs : RegNum) (rd : RegNum)
  /-- `DIVXS.W Rs,ERd` (R235) -/
  | divxsW (rs : RegNum) (erd : ErNum)
  /-- `CMP.B #xx:8,Rd` (R236) -/
  | cmpBImm (imm : Byte) (rd : RegNum)
  /-- `CMP.B Rs,Rd` (R236) -/
  | cmpBReg (rs : RegNum) (rd : RegNum)
  /-- `CMP.W #xx:16,Rd` (R237) -/
  | cmpWImm (imm : Word) (rd : RegNum)
  /-- `CMP.W Rs,Rd` (R237) -/
  | cmpWReg (rs : RegNum) (rd : RegNum)
  /-- `CMP.L #xx:32,ERd` (R238) -/
  | cmpLImm (imm : Long) (erd : ErNum)
  /-- `CMP.L ERs,ERd` (R238) -/
  | cmpLReg (ers : ErNum) (erd : ErNum)
  /-- `NEG.B Rd` (R239) -/
  | negB (rd : RegNum)
  /-- `NEG.W Rd` (R240) -/
  | negW (rd : RegNum)
  /-- `NEG.L ERd` (R241) -/
  | negL (erd : ErNum)
  /-- `EXTU.W Rd` (R242) -/
  | extuW (rd : RegNum)
  /-- `EXTU.L ERd` (R243) -/
  | extuL (erd : ErNum)
  /-- `EXTS.W Rd` (R244) -/
  | extsW (rd : RegNum)
  /-- `EXTS.L ERd` (R245) -/
  | extsL (erd : ErNum)
  -- Logic (spec/42_logic.md)
  /-- `AND.B #xx:8,Rd` (R281) -/
  | andBImm (imm : Byte) (rd : RegNum)
  /-- `AND.B Rs,Rd` (R281) -/
  | andBReg (rs : RegNum) (rd : RegNum)
  /-- `AND.W #xx:16,Rd` (R282) -/
  | andWImm (imm : Word) (rd : RegNum)
  /-- `AND.W Rs,Rd` (R282) -/
  | andWReg (rs : RegNum) (rd : RegNum)
  /-- `AND.L #xx:32,ERd` (R283) -/
  | andLImm (imm : Long) (erd : ErNum)
  /-- `AND.L ERs,ERd` (R283) -/
  | andLReg (ers : ErNum) (erd : ErNum)
  /-- `OR.B #xx:8,Rd` (R284) -/
  | orBImm (imm : Byte) (rd : RegNum)
  /-- `OR.B Rs,Rd` (R284) -/
  | orBReg (rs : RegNum) (rd : RegNum)
  /-- `OR.W #xx:16,Rd` (R285) -/
  | orWImm (imm : Word) (rd : RegNum)
  /-- `OR.W Rs,Rd` (R285) -/
  | orWReg (rs : RegNum) (rd : RegNum)
  /-- `OR.L #xx:32,ERd` (R286) -/
  | orLImm (imm : Long) (erd : ErNum)
  /-- `OR.L ERs,ERd` (R286) -/
  | orLReg (ers : ErNum) (erd : ErNum)
  /-- `XOR.B #xx:8,Rd` (R287) -/
  | xorBImm (imm : Byte) (rd : RegNum)
  /-- `XOR.B Rs,Rd` (R287) -/
  | xorBReg (rs : RegNum) (rd : RegNum)
  /-- `XOR.W #xx:16,Rd` (R288) -/
  | xorWImm (imm : Word) (rd : RegNum)
  /-- `XOR.W Rs,Rd` (R288) -/
  | xorWReg (rs : RegNum) (rd : RegNum)
  /-- `XOR.L #xx:32,ERd` (R289) -/
  | xorLImm (imm : Long) (erd : ErNum)
  /-- `XOR.L ERs,ERd` (R289) -/
  | xorLReg (ers : ErNum) (erd : ErNum)
  /-- `NOT.B Rd` (R290) -/
  | notB (rd : RegNum)
  /-- `NOT.W Rd` (R291) -/
  | notW (rd : RegNum)
  /-- `NOT.L ERd` (R292) -/
  | notL (erd : ErNum)
  -- Shift and rotate (spec/43_shift.md)
  /-- `SHAL.B Rd` (R301) -/
  | shalB (rd : RegNum)
  /-- `SHAL.W Rd` (R301) -/
  | shalW (rd : RegNum)
  /-- `SHAL.L ERd` (R301) -/
  | shalL (erd : ErNum)
  /-- `SHAR.B Rd` (R302) -/
  | sharB (rd : RegNum)
  /-- `SHAR.W Rd` (R302) -/
  | sharW (rd : RegNum)
  /-- `SHAR.L ERd` (R302) -/
  | sharL (erd : ErNum)
  /-- `SHLL.B Rd` (R303) -/
  | shllB (rd : RegNum)
  /-- `SHLL.W Rd` (R303) -/
  | shllW (rd : RegNum)
  /-- `SHLL.L ERd` (R303) -/
  | shllL (erd : ErNum)
  /-- `SHLR.B Rd` (R304) -/
  | shlrB (rd : RegNum)
  /-- `SHLR.W Rd` (R304) -/
  | shlrW (rd : RegNum)
  /-- `SHLR.L ERd` (R304) -/
  | shlrL (erd : ErNum)
  /-- `ROTL.B Rd` (R305) -/
  | rotlB (rd : RegNum)
  /-- `ROTL.W Rd` (R305) -/
  | rotlW (rd : RegNum)
  /-- `ROTL.L ERd` (R305) -/
  | rotlL (erd : ErNum)
  /-- `ROTR.B Rd` (R306) -/
  | rotrB (rd : RegNum)
  /-- `ROTR.W Rd` (R306) -/
  | rotrW (rd : RegNum)
  /-- `ROTR.L ERd` (R306) -/
  | rotrL (erd : ErNum)
  /-- `ROTXL.B Rd` (R307) -/
  | rotxlB (rd : RegNum)
  /-- `ROTXL.W Rd` (R307) -/
  | rotxlW (rd : RegNum)
  /-- `ROTXL.L ERd` (R307) -/
  | rotxlL (erd : ErNum)
  /-- `ROTXR.B Rd` (R308) -/
  | rotxrB (rd : RegNum)
  /-- `ROTXR.W Rd` (R308) -/
  | rotxrW (rd : RegNum)
  /-- `ROTXR.L ERd` (R308) -/
  | rotxrL (erd : ErNum)
  -- Bit manipulation (spec/44_bit_manipulation.md)
  /-- `BSET #xx:3,Rd` (R321) -/
  | bsetImmReg (bit : BitVec 3) (rd : RegNum)
  /-- `BSET #xx:3,@ERd` (R321) -/
  | bsetImmInd (bit : BitVec 3) (erd : ErNum)
  /-- `BSET #xx:3,@aa:8` (R321) -/
  | bsetImmAbs8 (bit : BitVec 3) (abs : Byte)
  /-- `BSET Rn,Rd` (R321) -/
  | bsetRnReg (rn : RegNum) (rd : RegNum)
  /-- `BSET Rn,@ERd` (R321) -/
  | bsetRnInd (rn : RegNum) (erd : ErNum)
  /-- `BSET Rn,@aa:8` (R321) -/
  | bsetRnAbs8 (rn : RegNum) (abs : Byte)
  /-- `BCLR #xx:3,Rd` (R322) -/
  | bclrImmReg (bit : BitVec 3) (rd : RegNum)
  /-- `BCLR #xx:3,@ERd` (R322) -/
  | bclrImmInd (bit : BitVec 3) (erd : ErNum)
  /-- `BCLR #xx:3,@aa:8` (R322) -/
  | bclrImmAbs8 (bit : BitVec 3) (abs : Byte)
  /-- `BCLR Rn,Rd` (R322) -/
  | bclrRnReg (rn : RegNum) (rd : RegNum)
  /-- `BCLR Rn,@ERd` (R322) -/
  | bclrRnInd (rn : RegNum) (erd : ErNum)
  /-- `BCLR Rn,@aa:8` (R322) -/
  | bclrRnAbs8 (rn : RegNum) (abs : Byte)
  /-- `BNOT #xx:3,Rd` (R323) -/
  | bnotImmReg (bit : BitVec 3) (rd : RegNum)
  /-- `BNOT #xx:3,@ERd` (R323) -/
  | bnotImmInd (bit : BitVec 3) (erd : ErNum)
  /-- `BNOT #xx:3,@aa:8` (R323) -/
  | bnotImmAbs8 (bit : BitVec 3) (abs : Byte)
  /-- `BNOT Rn,Rd` (R323) -/
  | bnotRnReg (rn : RegNum) (rd : RegNum)
  /-- `BNOT Rn,@ERd` (R323) -/
  | bnotRnInd (rn : RegNum) (erd : ErNum)
  /-- `BNOT Rn,@aa:8` (R323) -/
  | bnotRnAbs8 (rn : RegNum) (abs : Byte)
  /-- `BTST #xx:3,Rd` (R324) -/
  | btstImmReg (bit : BitVec 3) (rd : RegNum)
  /-- `BTST #xx:3,@ERd` (R324) -/
  | btstImmInd (bit : BitVec 3) (erd : ErNum)
  /-- `BTST #xx:3,@aa:8` (R324) -/
  | btstImmAbs8 (bit : BitVec 3) (abs : Byte)
  /-- `BTST Rn,Rd` (R324) -/
  | btstRnReg (rn : RegNum) (rd : RegNum)
  /-- `BTST Rn,@ERd` (R324) -/
  | btstRnInd (rn : RegNum) (erd : ErNum)
  /-- `BTST Rn,@aa:8` (R324) -/
  | btstRnAbs8 (rn : RegNum) (abs : Byte)
  /-- `BAND #xx:3,Rd` (R325) -/
  | bandReg (bit : BitVec 3) (rd : RegNum)
  /-- `BAND #xx:3,@ERd` (R325) -/
  | bandInd (bit : BitVec 3) (erd : ErNum)
  /-- `BAND #xx:3,@aa:8` (R325) -/
  | bandAbs8 (bit : BitVec 3) (abs : Byte)
  /-- `BIAND #xx:3,Rd` (R326) -/
  | biandReg (bit : BitVec 3) (rd : RegNum)
  /-- `BIAND #xx:3,@ERd` (R326) -/
  | biandInd (bit : BitVec 3) (erd : ErNum)
  /-- `BIAND #xx:3,@aa:8` (R326) -/
  | biandAbs8 (bit : BitVec 3) (abs : Byte)
  /-- `BOR #xx:3,Rd` (R327) -/
  | borReg (bit : BitVec 3) (rd : RegNum)
  /-- `BOR #xx:3,@ERd` (R327) -/
  | borInd (bit : BitVec 3) (erd : ErNum)
  /-- `BOR #xx:3,@aa:8` (R327) -/
  | borAbs8 (bit : BitVec 3) (abs : Byte)
  /-- `BIOR #xx:3,Rd` (R328) -/
  | biorReg (bit : BitVec 3) (rd : RegNum)
  /-- `BIOR #xx:3,@ERd` (R328) -/
  | biorInd (bit : BitVec 3) (erd : ErNum)
  /-- `BIOR #xx:3,@aa:8` (R328) -/
  | biorAbs8 (bit : BitVec 3) (abs : Byte)
  /-- `BXOR #xx:3,Rd` (R329) -/
  | bxorReg (bit : BitVec 3) (rd : RegNum)
  /-- `BXOR #xx:3,@ERd` (R329) -/
  | bxorInd (bit : BitVec 3) (erd : ErNum)
  /-- `BXOR #xx:3,@aa:8` (R329) -/
  | bxorAbs8 (bit : BitVec 3) (abs : Byte)
  /-- `BIXOR #xx:3,Rd` (R330) -/
  | bixorReg (bit : BitVec 3) (rd : RegNum)
  /-- `BIXOR #xx:3,@ERd` (R330) -/
  | bixorInd (bit : BitVec 3) (erd : ErNum)
  /-- `BIXOR #xx:3,@aa:8` (R330) -/
  | bixorAbs8 (bit : BitVec 3) (abs : Byte)
  /-- `BLD #xx:3,Rd` (R331) -/
  | bldReg (bit : BitVec 3) (rd : RegNum)
  /-- `BLD #xx:3,@ERd` (R331) -/
  | bldInd (bit : BitVec 3) (erd : ErNum)
  /-- `BLD #xx:3,@aa:8` (R331) -/
  | bldAbs8 (bit : BitVec 3) (abs : Byte)
  /-- `BILD #xx:3,Rd` (R332) -/
  | bildReg (bit : BitVec 3) (rd : RegNum)
  /-- `BILD #xx:3,@ERd` (R332) -/
  | bildInd (bit : BitVec 3) (erd : ErNum)
  /-- `BILD #xx:3,@aa:8` (R332) -/
  | bildAbs8 (bit : BitVec 3) (abs : Byte)
  /-- `BST #xx:3,Rd` (R333) -/
  | bstReg (bit : BitVec 3) (rd : RegNum)
  /-- `BST #xx:3,@ERd` (R333) -/
  | bstInd (bit : BitVec 3) (erd : ErNum)
  /-- `BST #xx:3,@aa:8` (R333) -/
  | bstAbs8 (bit : BitVec 3) (abs : Byte)
  /-- `BIST #xx:3,Rd` (R334) -/
  | bistReg (bit : BitVec 3) (rd : RegNum)
  /-- `BIST #xx:3,@ERd` (R334) -/
  | bistInd (bit : BitVec 3) (erd : ErNum)
  /-- `BIST #xx:3,@aa:8` (R334) -/
  | bistAbs8 (bit : BitVec 3) (abs : Byte)
  -- Branches (spec/45_branch.md)
  /-- `BRA d:8`, `BRA d:16` (R362) -/
  | bra (disp : BranchDisp)
  /-- `BRN d:8`, `BRN d:16` (R363) -/
  | brn (disp : BranchDisp)
  /-- `BHI d:8`, `BHI d:16` (R364) -/
  | bhi (disp : BranchDisp)
  /-- `BLS d:8`, `BLS d:16` (R365) -/
  | bls (disp : BranchDisp)
  /-- `BCC d:8`, `BCC d:16` (R366) -/
  | bcc (disp : BranchDisp)
  /-- `BCS d:8`, `BCS d:16` (R367) -/
  | bcs (disp : BranchDisp)
  /-- `BNE d:8`, `BNE d:16` (R368) -/
  | bne (disp : BranchDisp)
  /-- `BEQ d:8`, `BEQ d:16` (R369) -/
  | beq (disp : BranchDisp)
  /-- `BVC d:8`, `BVC d:16` (R370) -/
  | bvc (disp : BranchDisp)
  /-- `BVS d:8`, `BVS d:16` (R371) -/
  | bvs (disp : BranchDisp)
  /-- `BPL d:8`, `BPL d:16` (R372) -/
  | bpl (disp : BranchDisp)
  /-- `BMI d:8`, `BMI d:16` (R373) -/
  | bmi (disp : BranchDisp)
  /-- `BGE d:8`, `BGE d:16` (R374) -/
  | bge (disp : BranchDisp)
  /-- `BLT d:8`, `BLT d:16` (R375) -/
  | blt (disp : BranchDisp)
  /-- `BGT d:8`, `BGT d:16` (R376) -/
  | bgt (disp : BranchDisp)
  /-- `BLE d:8`, `BLE d:16` (R377) -/
  | ble (disp : BranchDisp)
  /-- `JMP @ERn` (R378) -/
  | jmpInd (ern : ErNum)
  /-- `JMP @aa:24` (R378) -/
  | jmpAbs24 (abs : BitVec 24)
  /-- `JMP @@aa:8` (R378) -/
  | jmpMemInd (abs : Byte)
  /-- `BSR d:8`, `BSR d:16` (R379) -/
  | bsr (disp : BranchDisp)
  /-- `JSR @ERn` (R380) -/
  | jsrInd (ern : ErNum)
  /-- `JSR @aa:24` (R380) -/
  | jsrAbs24 (abs : BitVec 24)
  /-- `JSR @@aa:8` (R380) -/
  | jsrMemInd (abs : Byte)
  -- System control (spec/46_system_control.md)
  /-- `LDC.B #xx:8,CCR` (R392) -/
  | ldcBImm (imm : Byte)
  /-- `LDC.B Rs,CCR` (R393) -/
  | ldcBReg (rs : RegNum)
  /-- `LDC.W @ERs,CCR` (R394) -/
  | ldcWInd (ers : ErNum)
  /-- `LDC.W @(d:16,ERs),CCR` (R394) -/
  | ldcWDisp16 (disp : Word) (ers : ErNum)
  /-- `LDC.W @(d:24,ERs),CCR` (R394) -/
  | ldcWDisp24 (disp : BitVec 24) (ers : ErNum)
  /-- `LDC.W @ERs+,CCR` (R394) -/
  | ldcWInc (ers : ErNum)
  /-- `LDC.W @aa:16,CCR` (R394) -/
  | ldcWAbs16 (abs : Word)
  /-- `LDC.W @aa:24,CCR` (R394) -/
  | ldcWAbs24 (abs : BitVec 24)
  /-- `STC.B CCR,Rd` (R395) -/
  | stcBReg (rd : RegNum)
  /-- `STC.W CCR,@ERd` (R396) -/
  | stcWInd (erd : ErNum)
  /-- `STC.W CCR,@(d:16,ERd)` (R396) -/
  | stcWDisp16 (disp : Word) (erd : ErNum)
  /-- `STC.W CCR,@(d:24,ERd)` (R396) -/
  | stcWDisp24 (disp : BitVec 24) (erd : ErNum)
  /-- `STC.W CCR,@-ERd` (R396) -/
  | stcWDec (erd : ErNum)
  /-- `STC.W CCR,@aa:16` (R396) -/
  | stcWAbs16 (abs : Word)
  /-- `STC.W CCR,@aa:24` (R396) -/
  | stcWAbs24 (abs : BitVec 24)
  /-- `ANDC #xx:8,CCR` (R397) -/
  | andc (imm : Byte)
  /-- `ORC #xx:8,CCR` (R398) -/
  | orc (imm : Byte)
  /-- `XORC #xx:8,CCR` (R399) -/
  | xorc (imm : Byte)
  /-- `TRAPA #xx:2` (R401) -/
  | trapa (vec : BitVec 2)
  -- The instructions with no operand
  /-- `RTS` (R381) -/
  | rts
  /-- `RTE` (R390) -/
  | rte
  /-- `SLEEP` (R391) -/
  | sleep
  /-- `NOP` (R400) -/
  | nop
  /-- `EEPMOV.B` (R420) -/
  | eepmovB
  /-- `EEPMOV.W` (R421) -/
  | eepmovW
deriving DecidableEq, Repr

end Sys2Proof
end

