-- ==== Sys2Proof/Decode.lean ====
section
/-!
DEFINITION. Decoding and encoding of instructions (spec/30_encoding.md). The decoder follows the first-byte map R145 and
the instruction rules; the encoder below it follows the encoding table R147. The patterns are the spec's general
knowledge of the family (G1, G2; PRESUMED, log 12). A pattern of no row is undefined (R148). The last part lays out a table word
as the hardware stores it (R112) and states the length rule R144.
-/

namespace Sys2Proof

/-- What decoding a byte sequence gives: an instruction and its length in bytes, no instruction (R148), or too few bytes
to tell. -/
inductive Decoded where
  | ok (i : Instr) (len : Nat)
  | undefined
  | short
deriving DecidableEq, Repr

/-- The high nibble of a byte. -/
def hiNib (b : Byte) : Nibble := b.extractLsb' 4 4

/-- The low nibble of a byte. -/
def loNib (b : Byte) : Nibble := b.extractLsb' 0 4

/-- The low three bits of a nibble: an ERn number (R115) or a bit number (R140). -/
def low3 (n : Nibble) : BitVec 3 := n.extractLsb' 0 3

/-- The top bit of a nibble: the fixed bit beside a three-bit field (R115, R140). -/
def topBit (n : Nibble) : Bool := n.getLsbD 3

/-- A nibble that must have its top bit 0, as `0erd`, `0ers`, `0ern`, `0iii` (R115, R335). -/
def withLow3 (n : Nibble) (f : BitVec 3 → Decoded) : Decoded :=
  if topBit n then .undefined else f (low3 n)

/-- A field that must be 0 (R150). -/
def ifZero {w : Nat} (n : BitVec w) (d : Decoded) : Decoded :=
  if n = 0#w then d else .undefined

/-- The next 16-bit field, most significant byte first (R112). -/
def with16 (rest : List Byte) (f : Word → Decoded) : Decoded :=
  match rest with
  | a :: b :: _ => f (a ++ b)
  | _ => .short

/-- The next 32-bit field, most significant byte first (R112). -/
def with32 (rest : List Byte) (f : Long → Decoded) : Decoded :=
  match rest with
  | a :: b :: c :: d :: _ => f (a ++ b ++ c ++ d)
  | _ => .short

/-- A 24-bit field held in four bytes of which the first is 00 (R141, R142). -/
def with0x24 (rest : List Byte) (f : BitVec 24 → Decoded) : Decoded :=
  match rest with
  | z :: a :: b :: c :: _ => ifZero z (f (a ++ b ++ c))
  | _ => .short

/-- The instruction word after a prefix word. -/
def withWord (rest : List Byte) (f : Byte → Byte → List Byte → Decoded) : Decoded :=
  match rest with
  | a :: b :: tail => f a b tail
  | _ => .short

/-- Bcc by its condition field (R143). -/
def bccOf (cc : Nibble) (d : BranchDisp) : Instr :=
  match cc with
  | 0x0#4 => .bra d
  | 0x1#4 => .brn d
  | 0x2#4 => .bhi d
  | 0x3#4 => .bls d
  | 0x4#4 => .bcc d
  | 0x5#4 => .bcs d
  | 0x6#4 => .bne d
  | 0x7#4 => .beq d
  | 0x8#4 => .bvc d
  | 0x9#4 => .bvs d
  | 0xA#4 => .bpl d
  | 0xB#4 => .bmi d
  | 0xC#4 => .bge d
  | 0xD#4 => .blt d
  | 0xE#4 => .bgt d
  | _ => .ble d

/-- The word after `01 00`: MOV.L with a memory operand (R181, R182). PUSH.L and POP.L are among these words (R151). -/
def decode0100 (rest : List Byte) : Decoded :=
  withWord rest fun a b tail =>
  let x := hiNib b
  let y := loNib b
  match a with
  | 0x69#8 => withLow3 y fun e => .ok (if topBit x then .movLStInd e (low3 x) else .movLLdInd (low3 x) e) 4
  | 0x6D#8 => withLow3 y fun e => .ok (if topBit x then .movLStDec e (low3 x) else .movLLdInc (low3 x) e) 4
  | 0x6F#8 => withLow3 y fun e => with16 tail fun d =>
      .ok (if topBit x then .movLStDisp16 e d (low3 x) else .movLLdDisp16 d (low3 x) e) 6
  | 0x6B#8 => withLow3 y fun e =>
      match x with
      | 0x0#4 => with16 tail fun d => .ok (.movLLdAbs16 d e) 6
      | 0x2#4 => with0x24 tail fun d => .ok (.movLLdAbs24 d e) 8
      | 0x8#4 => with16 tail fun d => .ok (.movLStAbs16 e d) 6
      | 0xA#4 => with0x24 tail fun d => .ok (.movLStAbs24 e d) 8
      | _ => .undefined
  | 0x78#8 => ifZero y <| withWord tail fun a2 b2 tail2 =>
      if a2 = 0x6B#8 then
        withLow3 (loNib b2) fun e =>
        match hiNib b2 with
        | 0x2#4 => withLow3 x fun n => with0x24 tail2 fun d => .ok (.movLLdDisp24 d n e) 10
        | 0xA#4 => with0x24 tail2 fun d => .ok (.movLStDisp24 e d (low3 x)) 10   -- top bit of x ignored (R150)
        | _ => .undefined
      else .undefined
  | _ => .undefined

/-- The word after `01 40`: LDC.W and STC.W (R394, R396). -/
def decode0140 (rest : List Byte) : Decoded :=
  withWord rest fun a b tail =>
  let x := hiNib b
  ifZero (loNib b) <|
  match a with
  | 0x69#8 => .ok (if topBit x then .stcWInd (low3 x) else .ldcWInd (low3 x)) 4
  | 0x6D#8 => .ok (if topBit x then .stcWDec (low3 x) else .ldcWInc (low3 x)) 4
  | 0x6F#8 => with16 tail fun d => .ok (if topBit x then .stcWDisp16 d (low3 x) else .ldcWDisp16 d (low3 x)) 6
  | 0x6B#8 =>
      match x with
      | 0x0#4 => with16 tail fun d => .ok (.ldcWAbs16 d) 6
      | 0x2#4 => with0x24 tail fun d => .ok (.ldcWAbs24 d) 8
      | 0x8#4 => with16 tail fun d => .ok (.stcWAbs16 d) 6
      | 0xA#4 => with0x24 tail fun d => .ok (.stcWAbs24 d) 8
      | _ => .undefined
  | 0x78#8 => withWord tail fun a2 b2 tail2 =>
      match a2, b2 with
      | 0x6B#8, 0x20#8 => withLow3 x fun n => with0x24 tail2 fun d => .ok (.ldcWDisp24 d n) 10
      | 0x6B#8, 0xA0#8 => with0x24 tail2 fun d => .ok (.stcWDisp24 d (low3 x)) 10   -- top bit of x ignored (R150)
      | _, _ => .undefined
  | _ => .undefined

/-- The word after `01 C0`, `01 D0` or `01 F0`: MULXS (R232, R233), DIVXS (R234, R235), AND.L, OR.L, XOR.L (R283, R286,
R289). -/
def decode01Arith (p : Byte) (rest : List Byte) : Decoded :=
  withWord rest fun a b _ =>
  let x := hiNib b
  let y := loNib b
  match p, a with
  | 0xC0#8, 0x50#8 => .ok (.mulxsB x y) 4
  | 0xC0#8, 0x52#8 => withLow3 y fun e => .ok (.mulxsW x e) 4
  | 0xD0#8, 0x51#8 => .ok (.divxsB x y) 4
  | 0xD0#8, 0x53#8 => withLow3 y fun e => .ok (.divxsW x e) 4
  | 0xF0#8, 0x64#8 => withLow3 x fun n => withLow3 y fun e => .ok (.orLReg n e) 4
  | 0xF0#8, 0x65#8 => withLow3 x fun n => withLow3 y fun e => .ok (.xorLReg n e) 4
  | 0xF0#8, 0x66#8 => withLow3 x fun n => withLow3 y fun e => .ok (.andLReg n e) 4
  | _, _ => .undefined

/-- First byte 0x (R145). -/
def decode0 (l : Nibble) (b : Byte) (rest : List Byte) : Decoded :=
  let x := hiNib b
  let y := loNib b
  match l with
  | 0x0#4 => ifZero b (.ok .nop 2)
  | 0x1#4 =>
      match b with
      | 0x00#8 => decode0100 rest
      | 0x40#8 => decode0140 rest
      | 0x80#8 => .ok .sleep 2
      | 0xC0#8 => decode01Arith 0xC0#8 rest
      | 0xD0#8 => decode01Arith 0xD0#8 rest
      | 0xF0#8 => decode01Arith 0xF0#8 rest
      | _ => .undefined
  | 0x2#4 => ifZero x (.ok (.stcBReg y) 2)
  | 0x3#4 => ifZero x (.ok (.ldcBReg y) 2)
  | 0x4#4 => .ok (.orc b) 2
  | 0x5#4 => .ok (.xorc b) 2
  | 0x6#4 => .ok (.andc b) 2
  | 0x7#4 => .ok (.ldcBImm b) 2
  | 0x8#4 => .ok (.addBReg x y) 2
  | 0x9#4 => .ok (.addWReg x y) 2
  | 0xA#4 => if topBit x then withLow3 y fun e => .ok (.addLReg (low3 x) e) 2 else ifZero x (.ok (.incB y) 2)
  | 0xB#4 =>
      match x with
      | 0x0#4 => withLow3 y fun e => .ok (.adds1 e) 2
      | 0x5#4 => .ok (.incW1 y) 2
      | 0x7#4 => withLow3 y fun e => .ok (.incL1 e) 2
      | 0x8#4 => withLow3 y fun e => .ok (.adds2 e) 2
      | 0x9#4 => withLow3 y fun e => .ok (.adds4 e) 2
      | 0xD#4 => .ok (.incW2 y) 2
      | 0xF#4 => withLow3 y fun e => .ok (.incL2 e) 2
      | _ => .undefined
  | 0xC#4 => .ok (.movBReg x y) 2
  | 0xD#4 => .ok (.movWReg x y) 2
  | 0xE#4 => .ok (.addxBReg x y) 2
  | _ => if topBit x then withLow3 y fun e => .ok (.movLReg (low3 x) e) 2 else ifZero x (.ok (.daa y) 2)

/-- First byte 1x (R145, R309). -/
def decode1 (l : Nibble) (b : Byte) : Decoded :=
  let x := hiNib b
  let y := loNib b
  match l with
  | 0x0#4 =>
      match x with
      | 0x0#4 => .ok (.shllB y) 2
      | 0x1#4 => .ok (.shllW y) 2
      | 0x3#4 => withLow3 y fun e => .ok (.shllL e) 2
      | 0x8#4 => .ok (.shalB y) 2
      | 0x9#4 => .ok (.shalW y) 2
      | 0xB#4 => withLow3 y fun e => .ok (.shalL e) 2
      | _ => .undefined
  | 0x1#4 =>
      match x with
      | 0x0#4 => .ok (.shlrB y) 2
      | 0x1#4 => .ok (.shlrW y) 2
      | 0x3#4 => withLow3 y fun e => .ok (.shlrL e) 2
      | 0x8#4 => .ok (.sharB y) 2
      | 0x9#4 => .ok (.sharW y) 2
      | 0xB#4 => withLow3 y fun e => .ok (.sharL e) 2
      | _ => .undefined
  | 0x2#4 =>
      match x with
      | 0x0#4 => .ok (.rotxlB y) 2
      | 0x1#4 => .ok (.rotxlW y) 2
      | 0x3#4 => withLow3 y fun e => .ok (.rotxlL e) 2
      | 0x8#4 => .ok (.rotlB y) 2
      | 0x9#4 => .ok (.rotlW y) 2
      | 0xB#4 => withLow3 y fun e => .ok (.rotlL e) 2
      | _ => .undefined
  | 0x3#4 =>
      match x with
      | 0x0#4 => .ok (.rotxrB y) 2
      | 0x1#4 => .ok (.rotxrW y) 2
      | 0x3#4 => withLow3 y fun e => .ok (.rotxrL e) 2
      | 0x8#4 => .ok (.rotrB y) 2
      | 0x9#4 => .ok (.rotrW y) 2
      | 0xB#4 => withLow3 y fun e => .ok (.rotrL e) 2
      | _ => .undefined
  | 0x4#4 => .ok (.orBReg x y) 2
  | 0x5#4 => .ok (.xorBReg x y) 2
  | 0x6#4 => .ok (.andBReg x y) 2
  | 0x7#4 =>
      match x with
      | 0x0#4 => .ok (.notB y) 2
      | 0x1#4 => .ok (.notW y) 2
      | 0x3#4 => withLow3 y fun e => .ok (.notL e) 2
      | 0x5#4 => .ok (.extuW y) 2
      | 0x7#4 => withLow3 y fun e => .ok (.extuL e) 2
      | 0x8#4 => .ok (.negB y) 2
      | 0x9#4 => .ok (.negW y) 2
      | 0xB#4 => withLow3 y fun e => .ok (.negL e) 2
      | 0xD#4 => .ok (.extsW y) 2
      | 0xF#4 => withLow3 y fun e => .ok (.extsL e) 2
      | _ => .undefined
  | 0x8#4 => .ok (.subBReg x y) 2
  | 0x9#4 => .ok (.subWReg x y) 2
  | 0xA#4 => if topBit x then withLow3 y fun e => .ok (.subLReg (low3 x) e) 2 else ifZero x (.ok (.decB y) 2)
  | 0xB#4 =>
      match x with
      | 0x0#4 => withLow3 y fun e => .ok (.subs1 e) 2
      | 0x5#4 => .ok (.decW1 y) 2
      | 0x7#4 => withLow3 y fun e => .ok (.decL1 e) 2
      | 0x8#4 => withLow3 y fun e => .ok (.subs2 e) 2
      | 0x9#4 => withLow3 y fun e => .ok (.subs4 e) 2
      | 0xD#4 => .ok (.decW2 y) 2
      | 0xF#4 => withLow3 y fun e => .ok (.decL2 e) 2
      | _ => .undefined
  | 0xC#4 => .ok (.cmpBReg x y) 2
  | 0xD#4 => .ok (.cmpWReg x y) 2
  | 0xE#4 => .ok (.subxBReg x y) 2
  | _ => if topBit x then withLow3 y fun e => .ok (.cmpLReg (low3 x) e) 2 else ifZero x (.ok (.das y) 2)

/-- First byte 5x (R145): multiply, divide, branches. -/
def decode5 (l : Nibble) (b : Byte) (rest : List Byte) : Decoded :=
  let x := hiNib b
  let y := loNib b
  match l with
  | 0x0#4 => .ok (.mulxuB x y) 2
  | 0x1#4 => .ok (.divxuB x y) 2
  | 0x2#4 => withLow3 y fun e => .ok (.mulxuW x e) 2
  | 0x3#4 => withLow3 y fun e => .ok (.divxuW x e) 2
  | 0x4#4 => if b = 0x70#8 then .ok .rts 2 else .undefined
  | 0x5#4 => .ok (.bsr (.d8 b)) 2
  | 0x6#4 => if b = 0x70#8 then .ok .rte 2 else .undefined
  | 0x7#4 => ifZero y (ifZero (x.extractLsb' 2 2) (.ok (.trapa (x.extractLsb' 0 2)) 2))
  | 0x8#4 => ifZero y (with16 rest fun d => .ok (bccOf x (.d16 d)) 4)
  | 0x9#4 => ifZero y (withLow3 x fun e => .ok (.jmpInd e) 2)
  | 0xA#4 => with16 rest fun d => .ok (.jmpAbs24 (b ++ d)) 4
  | 0xB#4 => .ok (.jmpMemInd b) 2
  | 0xC#4 => ifZero b (with16 rest fun d => .ok (.bsr (.d16 d)) 4)
  | 0xD#4 => ifZero y (withLow3 x fun e => .ok (.jsrInd e) 2)
  | 0xE#4 => with16 rest fun d => .ok (.jsrAbs24 (b ++ d)) 4
  | _ => .ok (.jsrMemInd b) 2

/-- First byte 6x (R145): bit operations on a register, word logic, MOV.B and MOV.W with a memory operand. -/
def decode6 (l : Nibble) (b : Byte) (rest : List Byte) : Decoded :=
  let x := hiNib b
  let y := loNib b
  match l with
  | 0x0#4 => .ok (.bsetRnReg x y) 2
  | 0x1#4 => .ok (.bnotRnReg x y) 2
  | 0x2#4 => .ok (.bclrRnReg x y) 2
  | 0x3#4 => .ok (.btstRnReg x y) 2
  | 0x4#4 => .ok (.orWReg x y) 2
  | 0x5#4 => .ok (.xorWReg x y) 2
  | 0x6#4 => .ok (.andWReg x y) 2
  | 0x7#4 => .ok (if topBit x then .bistReg (low3 x) y else .bstReg (low3 x) y) 2
  | 0x8#4 => .ok (if topBit x then .movBStInd y (low3 x) else .movBLdInd (low3 x) y) 2
  | 0x9#4 => .ok (if topBit x then .movWStInd y (low3 x) else .movWLdInd (low3 x) y) 2
  | 0xA#4 =>
      match x with
      | 0x0#4 => with16 rest fun d => .ok (.movBLdAbs16 d y) 4
      | 0x2#4 => with0x24 rest fun d => .ok (.movBLdAbs24 d y) 6
      | 0x8#4 => with16 rest fun d => .ok (.movBStAbs16 y d) 4
      | 0xA#4 => with0x24 rest fun d => .ok (.movBStAbs24 y d) 6
      | _ => .undefined
  | 0xB#4 =>
      match x with
      | 0x0#4 => with16 rest fun d => .ok (.movWLdAbs16 d y) 4
      | 0x2#4 => with0x24 rest fun d => .ok (.movWLdAbs24 d y) 6
      | 0x8#4 => with16 rest fun d => .ok (.movWStAbs16 y d) 4
      | 0xA#4 => with0x24 rest fun d => .ok (.movWStAbs24 y d) 6
      | _ => .undefined
  | 0xC#4 => .ok (if topBit x then .movBStDec y (low3 x) else .movBLdInc (low3 x) y) 2
  | 0xD#4 => .ok (if topBit x then .movWStDec y (low3 x) else .movWLdInc (low3 x) y) 2
  | 0xE#4 => with16 rest fun d => .ok (if topBit x then .movBStDisp16 y d (low3 x) else .movBLdDisp16 d (low3 x) y) 4
  | _ => with16 rest fun d => .ok (if topBit x then .movWStDisp16 y d (low3 x) else .movWLdDisp16 d (low3 x) y) 4

/-- The word after `7C 0erd 0`: a reading bit operation on @ERd (R335). -/
def decodeBitReadInd (e : ErNum) (a b : Byte) : Decoded :=
  let x := hiNib b
  ifZero (loNib b) <|
  match a with
  | 0x63#8 => .ok (.btstRnInd x e) 4
  | 0x73#8 => withLow3 x fun n => .ok (.btstImmInd n e) 4
  | 0x74#8 => .ok (if topBit x then .biorInd (low3 x) e else .borInd (low3 x) e) 4
  | 0x75#8 => .ok (if topBit x then .bixorInd (low3 x) e else .bxorInd (low3 x) e) 4
  | 0x76#8 => .ok (if topBit x then .biandInd (low3 x) e else .bandInd (low3 x) e) 4
  | 0x77#8 => .ok (if topBit x then .bildInd (low3 x) e else .bldInd (low3 x) e) 4
  | _ => .undefined

/-- The word after `7D 0erd 0`: a writing bit operation on @ERd (R335). -/
def decodeBitWriteInd (e : ErNum) (a b : Byte) : Decoded :=
  let x := hiNib b
  ifZero (loNib b) <|
  match a with
  | 0x60#8 => .ok (.bsetRnInd x e) 4
  | 0x61#8 => .ok (.bnotRnInd x e) 4
  | 0x62#8 => .ok (.bclrRnInd x e) 4
  | 0x67#8 => .ok (if topBit x then .bistInd (low3 x) e else .bstInd (low3 x) e) 4
  | 0x70#8 => withLow3 x fun n => .ok (.bsetImmInd n e) 4
  | 0x71#8 => withLow3 x fun n => .ok (.bnotImmInd n e) 4
  | 0x72#8 => withLow3 x fun n => .ok (.bclrImmInd n e) 4
  | _ => .undefined

/-- The word after `7E aa`: a reading bit operation on @aa:8 (R335). -/
def decodeBitReadAbs (aa a b : Byte) : Decoded :=
  let x := hiNib b
  ifZero (loNib b) <|
  match a with
  | 0x63#8 => .ok (.btstRnAbs8 x aa) 4
  | 0x73#8 => withLow3 x fun n => .ok (.btstImmAbs8 n aa) 4
  | 0x74#8 => .ok (if topBit x then .biorAbs8 (low3 x) aa else .borAbs8 (low3 x) aa) 4
  | 0x75#8 => .ok (if topBit x then .bixorAbs8 (low3 x) aa else .bxorAbs8 (low3 x) aa) 4
  | 0x76#8 => .ok (if topBit x then .biandAbs8 (low3 x) aa else .bandAbs8 (low3 x) aa) 4
  | 0x77#8 => .ok (if topBit x then .bildAbs8 (low3 x) aa else .bldAbs8 (low3 x) aa) 4
  | _ => .undefined

/-- The word after `7F aa`: a writing bit operation on @aa:8 (R335). -/
def decodeBitWriteAbs (aa a b : Byte) : Decoded :=
  let x := hiNib b
  ifZero (loNib b) <|
  match a with
  | 0x60#8 => .ok (.bsetRnAbs8 x aa) 4
  | 0x61#8 => .ok (.bnotRnAbs8 x aa) 4
  | 0x62#8 => .ok (.bclrRnAbs8 x aa) 4
  | 0x67#8 => .ok (if topBit x then .bistAbs8 (low3 x) aa else .bstAbs8 (low3 x) aa) 4
  | 0x70#8 => withLow3 x fun n => .ok (.bsetImmAbs8 n aa) 4
  | 0x71#8 => withLow3 x fun n => .ok (.bnotImmAbs8 n aa) 4
  | 0x72#8 => withLow3 x fun n => .ok (.bclrImmAbs8 n aa) 4
  | _ => .undefined

/-- The words after `78 0ern 0`: MOV.B and MOV.W with @(d:24,ERn) (R173, R174, R177, R178). -/
def decode78 (n : ErNum) (rest : List Byte) : Decoded :=
  withWord rest fun a b tail =>
  let y := loNib b
  match a, hiNib b with
  | 0x6A#8, 0x2#4 => with0x24 tail fun d => .ok (.movBLdDisp24 d n y) 8
  | 0x6A#8, 0xA#4 => with0x24 tail fun d => .ok (.movBStDisp24 y d n) 8
  | 0x6B#8, 0x2#4 => with0x24 tail fun d => .ok (.movWLdDisp24 d n y) 8
  | 0x6B#8, 0xA#4 => with0x24 tail fun d => .ok (.movWStDisp24 y d n) 8
  | _, _ => .undefined

/-- `7B`: EEPMOV, whose four bytes are all fixed (R420, R421). -/
def decode7B (b : Byte) (rest : List Byte) : Decoded :=
  with16 rest fun w =>
  if w = 0x598F#16 then
    match b with
    | 0x5C#8 => .ok .eepmovB 4
    | 0xD4#8 => .ok .eepmovW 4
    | _ => .undefined
  else .undefined

/-- `79`: the word immediate group (R145). -/
def decode79 (x y : Nibble) (rest : List Byte) : Decoded :=
  with16 rest fun d =>
  match x with
  | 0x0#4 => .ok (.movWImm d y) 4
  | 0x1#4 => .ok (.addWImm d y) 4
  | 0x2#4 => .ok (.cmpWImm d y) 4
  | 0x3#4 => .ok (.subWImm d y) 4
  | 0x4#4 => .ok (.orWImm d y) 4
  | 0x5#4 => .ok (.xorWImm d y) 4
  | 0x6#4 => .ok (.andWImm d y) 4
  | _ => .undefined

/-- `7A`: the longword immediate group (R145). -/
def decode7A (x y : Nibble) (rest : List Byte) : Decoded :=
  withLow3 y fun e => with32 rest fun d =>
  match x with
  | 0x0#4 => .ok (.movLImm d e) 6
  | 0x1#4 => .ok (.addLImm d e) 6
  | 0x2#4 => .ok (.cmpLImm d e) 6
  | 0x3#4 => .ok (.subLImm d e) 6
  | 0x4#4 => .ok (.orLImm d e) 6
  | 0x5#4 => .ok (.xorLImm d e) 6
  | 0x6#4 => .ok (.andLImm d e) 6
  | _ => .undefined

/-- First byte 7x (R145): bit operations, immediates, EEPMOV. -/
def decode7 (l : Nibble) (b : Byte) (rest : List Byte) : Decoded :=
  let x := hiNib b
  let y := loNib b
  match l with
  | 0x0#4 => withLow3 x fun n => .ok (.bsetImmReg n y) 2
  | 0x1#4 => withLow3 x fun n => .ok (.bnotImmReg n y) 2
  | 0x2#4 => withLow3 x fun n => .ok (.bclrImmReg n y) 2
  | 0x3#4 => withLow3 x fun n => .ok (.btstImmReg n y) 2
  | 0x4#4 => .ok (if topBit x then .biorReg (low3 x) y else .borReg (low3 x) y) 2
  | 0x5#4 => .ok (if topBit x then .bixorReg (low3 x) y else .bxorReg (low3 x) y) 2
  | 0x6#4 => .ok (if topBit x then .biandReg (low3 x) y else .bandReg (low3 x) y) 2
  | 0x7#4 => .ok (if topBit x then .bildReg (low3 x) y else .bldReg (low3 x) y) 2
  | 0x8#4 => ifZero y (withLow3 x fun n => decode78 n rest)
  | 0x9#4 => decode79 x y rest
  | 0xA#4 => decode7A x y rest
  | 0xB#4 => decode7B b rest
  | 0xC#4 => ifZero y (withLow3 x fun e => withWord rest fun a c _ => decodeBitReadInd e a c)
  | 0xD#4 => ifZero y (withLow3 x fun e => withWord rest fun a c _ => decodeBitWriteInd e a c)
  | 0xE#4 => withWord rest fun a c _ => decodeBitReadAbs b a c
  | _ => withWord rest fun a c _ => decodeBitWriteAbs b a c

/-- The decoder: total on any bytes. PUSH and POP decode to the MOV forms they are another name of (R151). -/
def decode (bytes : List Byte) : Decoded :=
  withWord bytes fun b0 b rest =>
  let l := loNib b0
  match hiNib b0 with
  | 0x0#4 => decode0 l b rest
  | 0x1#4 => decode1 l b
  | 0x2#4 => .ok (.movBLdAbs8 b l) 2
  | 0x3#4 => .ok (.movBStAbs8 l b) 2
  | 0x4#4 => .ok (bccOf l (.d8 b)) 2
  | 0x5#4 => decode5 l b rest
  | 0x6#4 => decode6 l b rest
  | 0x7#4 => decode7 l b rest
  | 0x8#4 => .ok (.addBImm b l) 2
  | 0x9#4 => .ok (.addxBImm b l) 2
  | 0xA#4 => .ok (.cmpBImm b l) 2
  | 0xB#4 => .ok (.subxBImm b l) 2
  | 0xC#4 => .ok (.orBImm b l) 2
  | 0xD#4 => .ok (.xorBImm b l) 2
  | 0xE#4 => .ok (.andBImm b l) 2
  | _ => .ok (.movBImm b l) 2

/-- Byte `k` of a value, byte 0 being the least significant. -/
def byteOf {w : Nat} (v : BitVec w) (k : Nat) : Byte := v.extractLsb' (8 * k) 8

/-- A 16-bit field in memory order (R112). -/
def be16 (v : BitVec 16) : List Byte := [byteOf v 1, byteOf v 0]

/-- A 24-bit field in memory order (R112). -/
def be24 (v : BitVec 24) : List Byte := [byteOf v 2, byteOf v 1, byteOf v 0]

/-- A 32-bit field in memory order (R112). -/
def be32 (v : BitVec 32) : List Byte := [byteOf v 3, byteOf v 2, byteOf v 1, byteOf v 0]

/-- The encoder (R147), the bit that a decoder ignores (R150) being `ign`. -/
def encodeWith (ign : BitVec 1) (i : Instr) : List Byte :=
  match i with
  | .movBImm imm rd => [0xF#4 ++ rd, imm]
  | .movBReg rs rd => [0x0C#8, rs ++ rd]
  | .movBLdInd ers rd => [0x68#8, (0#1 ++ ers) ++ rd]
  | .movBLdDisp16 disp ers rd => [0x6E#8, (0#1 ++ ers) ++ rd] ++ be16 disp
  | .movBLdDisp24 disp ers rd => [0x78#8, (0#1 ++ ers) ++ 0x0#4, 0x6A#8, 0x2#4 ++ rd, 0x00#8] ++ be24 disp
  | .movBLdInc ers rd => [0x6C#8, (0#1 ++ ers) ++ rd]
  | .movBLdAbs8 abs rd => [0x2#4 ++ rd, abs]
  | .movBLdAbs16 abs rd => [0x6A#8, 0x0#4 ++ rd] ++ be16 abs
  | .movBLdAbs24 abs rd => [0x6A#8, 0x2#4 ++ rd, 0x00#8] ++ be24 abs
  | .movBStInd rs erd => [0x68#8, (1#1 ++ erd) ++ rs]
  | .movBStDisp16 rs disp erd => [0x6E#8, (1#1 ++ erd) ++ rs] ++ be16 disp
  | .movBStDisp24 rs disp erd => [0x78#8, (0#1 ++ erd) ++ 0x0#4, 0x6A#8, 0xA#4 ++ rs, 0x00#8] ++ be24 disp
  | .movBStDec rs erd => [0x6C#8, (1#1 ++ erd) ++ rs]
  | .movBStAbs8 rs abs => [0x3#4 ++ rs, abs]
  | .movBStAbs16 rs abs => [0x6A#8, 0x8#4 ++ rs] ++ be16 abs
  | .movBStAbs24 rs abs => [0x6A#8, 0xA#4 ++ rs, 0x00#8] ++ be24 abs
  | .movWImm imm rd => [0x79#8, 0x0#4 ++ rd] ++ be16 imm
  | .movWReg rs rd => [0x0D#8, rs ++ rd]
  | .movWLdInd ers rd => [0x69#8, (0#1 ++ ers) ++ rd]
  | .movWLdDisp16 disp ers rd => [0x6F#8, (0#1 ++ ers) ++ rd] ++ be16 disp
  | .movWLdDisp24 disp ers rd => [0x78#8, (0#1 ++ ers) ++ 0x0#4, 0x6B#8, 0x2#4 ++ rd, 0x00#8] ++ be24 disp
  | .movWLdInc ers rd => [0x6D#8, (0#1 ++ ers) ++ rd]
  | .movWLdAbs16 abs rd => [0x6B#8, 0x0#4 ++ rd] ++ be16 abs
  | .movWLdAbs24 abs rd => [0x6B#8, 0x2#4 ++ rd, 0x00#8] ++ be24 abs
  | .movWStInd rs erd => [0x69#8, (1#1 ++ erd) ++ rs]
  | .movWStDisp16 rs disp erd => [0x6F#8, (1#1 ++ erd) ++ rs] ++ be16 disp
  | .movWStDisp24 rs disp erd => [0x78#8, (0#1 ++ erd) ++ 0x0#4, 0x6B#8, 0xA#4 ++ rs, 0x00#8] ++ be24 disp
  | .movWStDec rs erd => [0x6D#8, (1#1 ++ erd) ++ rs]
  | .movWStAbs16 rs abs => [0x6B#8, 0x8#4 ++ rs] ++ be16 abs
  | .movWStAbs24 rs abs => [0x6B#8, 0xA#4 ++ rs, 0x00#8] ++ be24 abs
  | .movLImm imm erd => [0x7A#8, 0x0#4 ++ (0#1 ++ erd)] ++ be32 imm
  | .movLReg ers erd => [0x0F#8, (1#1 ++ ers) ++ (0#1 ++ erd)]
  | .movLLdInd ers erd => [0x01#8, 0x00#8, 0x69#8, (0#1 ++ ers) ++ (0#1 ++ erd)]
  | .movLLdDisp16 disp ers erd => [0x01#8, 0x00#8, 0x6F#8, (0#1 ++ ers) ++ (0#1 ++ erd)] ++ be16 disp
  | .movLLdDisp24 disp ers erd =>
      [0x01#8, 0x00#8, 0x78#8, (0#1 ++ ers) ++ 0x0#4, 0x6B#8, 0x2#4 ++ (0#1 ++ erd), 0x00#8] ++ be24 disp
  | .movLLdInc ers erd => [0x01#8, 0x00#8, 0x6D#8, (0#1 ++ ers) ++ (0#1 ++ erd)]
  | .movLLdAbs16 abs erd => [0x01#8, 0x00#8, 0x6B#8, 0x0#4 ++ (0#1 ++ erd)] ++ be16 abs
  | .movLLdAbs24 abs erd => [0x01#8, 0x00#8, 0x6B#8, 0x2#4 ++ (0#1 ++ erd), 0x00#8] ++ be24 abs
  | .movLStInd ers erd => [0x01#8, 0x00#8, 0x69#8, (1#1 ++ erd) ++ (0#1 ++ ers)]
  | .movLStDisp16 ers disp erd => [0x01#8, 0x00#8, 0x6F#8, (1#1 ++ erd) ++ (0#1 ++ ers)] ++ be16 disp
  | .movLStDisp24 ers disp erd =>
      [0x01#8, 0x00#8, 0x78#8, (ign ++ erd) ++ 0x0#4, 0x6B#8, 0xA#4 ++ (0#1 ++ ers), 0x00#8] ++ be24 disp
  | .movLStDec ers erd => [0x01#8, 0x00#8, 0x6D#8, (1#1 ++ erd) ++ (0#1 ++ ers)]
  | .movLStAbs16 ers abs => [0x01#8, 0x00#8, 0x6B#8, 0x8#4 ++ (0#1 ++ ers)] ++ be16 abs
  | .movLStAbs24 ers abs => [0x01#8, 0x00#8, 0x6B#8, 0xA#4 ++ (0#1 ++ ers), 0x00#8] ++ be24 abs
  | .pushW rn => [0x6D#8, 0xF#4 ++ rn]
  | .pushL ern => [0x01#8, 0x00#8, 0x6D#8, 0xF#4 ++ (0#1 ++ ern)]
  | .popW rn => [0x6D#8, 0x7#4 ++ rn]
  | .popL ern => [0x01#8, 0x00#8, 0x6D#8, 0x7#4 ++ (0#1 ++ ern)]
  | .addBImm imm rd => [0x8#4 ++ rd, imm]
  | .addBReg rs rd => [0x08#8, rs ++ rd]
  | .addWImm imm rd => [0x79#8, 0x1#4 ++ rd] ++ be16 imm
  | .addWReg rs rd => [0x09#8, rs ++ rd]
  | .addLImm imm erd => [0x7A#8, 0x1#4 ++ (0#1 ++ erd)] ++ be32 imm
  | .addLReg ers erd => [0x0A#8, (1#1 ++ ers) ++ (0#1 ++ erd)]
  | .subBReg rs rd => [0x18#8, rs ++ rd]
  | .subWImm imm rd => [0x79#8, 0x3#4 ++ rd] ++ be16 imm
  | .subWReg rs rd => [0x19#8, rs ++ rd]
  | .subLImm imm erd => [0x7A#8, 0x3#4 ++ (0#1 ++ erd)] ++ be32 imm
  | .subLReg ers erd => [0x1A#8, (1#1 ++ ers) ++ (0#1 ++ erd)]
  | .addxBImm imm rd => [0x9#4 ++ rd, imm]
  | .addxBReg rs rd => [0x0E#8, rs ++ rd]
  | .subxBImm imm rd => [0xB#4 ++ rd, imm]
  | .subxBReg rs rd => [0x1E#8, rs ++ rd]
  | .incB rd => [0x0A#8, 0x0#4 ++ rd]
  | .incW1 rd => [0x0B#8, 0x5#4 ++ rd]
  | .incW2 rd => [0x0B#8, 0xD#4 ++ rd]
  | .incL1 erd => [0x0B#8, 0x7#4 ++ (0#1 ++ erd)]
  | .incL2 erd => [0x0B#8, 0xF#4 ++ (0#1 ++ erd)]
  | .decB rd => [0x1A#8, 0x0#4 ++ rd]
  | .decW1 rd => [0x1B#8, 0x5#4 ++ rd]
  | .decW2 rd => [0x1B#8, 0xD#4 ++ rd]
  | .decL1 erd => [0x1B#8, 0x7#4 ++ (0#1 ++ erd)]
  | .decL2 erd => [0x1B#8, 0xF#4 ++ (0#1 ++ erd)]
  | .adds1 erd => [0x0B#8, 0x0#4 ++ (0#1 ++ erd)]
  | .adds2 erd => [0x0B#8, 0x8#4 ++ (0#1 ++ erd)]
  | .adds4 erd => [0x0B#8, 0x9#4 ++ (0#1 ++ erd)]
  | .subs1 erd => [0x1B#8, 0x0#4 ++ (0#1 ++ erd)]
  | .subs2 erd => [0x1B#8, 0x8#4 ++ (0#1 ++ erd)]
  | .subs4 erd => [0x1B#8, 0x9#4 ++ (0#1 ++ erd)]
  | .daa rd => [0x0F#8, 0x0#4 ++ rd]
  | .das rd => [0x1F#8, 0x0#4 ++ rd]
  | .mulxuB rs rd => [0x50#8, rs ++ rd]
  | .mulxuW rs erd => [0x52#8, rs ++ (0#1 ++ erd)]
  | .divxuB rs rd => [0x51#8, rs ++ rd]
  | .divxuW rs erd => [0x53#8, rs ++ (0#1 ++ erd)]
  | .mulxsB rs rd => [0x01#8, 0xC0#8, 0x50#8, rs ++ rd]
  | .mulxsW rs erd => [0x01#8, 0xC0#8, 0x52#8, rs ++ (0#1 ++ erd)]
  | .divxsB rs rd => [0x01#8, 0xD0#8, 0x51#8, rs ++ rd]
  | .divxsW rs erd => [0x01#8, 0xD0#8, 0x53#8, rs ++ (0#1 ++ erd)]
  | .cmpBImm imm rd => [0xA#4 ++ rd, imm]
  | .cmpBReg rs rd => [0x1C#8, rs ++ rd]
  | .cmpWImm imm rd => [0x79#8, 0x2#4 ++ rd] ++ be16 imm
  | .cmpWReg rs rd => [0x1D#8, rs ++ rd]
  | .cmpLImm imm erd => [0x7A#8, 0x2#4 ++ (0#1 ++ erd)] ++ be32 imm
  | .cmpLReg ers erd => [0x1F#8, (1#1 ++ ers) ++ (0#1 ++ erd)]
  | .negB rd => [0x17#8, 0x8#4 ++ rd]
  | .negW rd => [0x17#8, 0x9#4 ++ rd]
  | .negL erd => [0x17#8, 0xB#4 ++ (0#1 ++ erd)]
  | .extuW rd => [0x17#8, 0x5#4 ++ rd]
  | .extuL erd => [0x17#8, 0x7#4 ++ (0#1 ++ erd)]
  | .extsW rd => [0x17#8, 0xD#4 ++ rd]
  | .extsL erd => [0x17#8, 0xF#4 ++ (0#1 ++ erd)]
  | .andBImm imm rd => [0xE#4 ++ rd, imm]
  | .andBReg rs rd => [0x16#8, rs ++ rd]
  | .andWImm imm rd => [0x79#8, 0x6#4 ++ rd] ++ be16 imm
  | .andWReg rs rd => [0x66#8, rs ++ rd]
  | .andLImm imm erd => [0x7A#8, 0x6#4 ++ (0#1 ++ erd)] ++ be32 imm
  | .andLReg ers erd => [0x01#8, 0xF0#8, 0x66#8, (0#1 ++ ers) ++ (0#1 ++ erd)]
  | .orBImm imm rd => [0xC#4 ++ rd, imm]
  | .orBReg rs rd => [0x14#8, rs ++ rd]
  | .orWImm imm rd => [0x79#8, 0x4#4 ++ rd] ++ be16 imm
  | .orWReg rs rd => [0x64#8, rs ++ rd]
  | .orLImm imm erd => [0x7A#8, 0x4#4 ++ (0#1 ++ erd)] ++ be32 imm
  | .orLReg ers erd => [0x01#8, 0xF0#8, 0x64#8, (0#1 ++ ers) ++ (0#1 ++ erd)]
  | .xorBImm imm rd => [0xD#4 ++ rd, imm]
  | .xorBReg rs rd => [0x15#8, rs ++ rd]
  | .xorWImm imm rd => [0x79#8, 0x5#4 ++ rd] ++ be16 imm
  | .xorWReg rs rd => [0x65#8, rs ++ rd]
  | .xorLImm imm erd => [0x7A#8, 0x5#4 ++ (0#1 ++ erd)] ++ be32 imm
  | .xorLReg ers erd => [0x01#8, 0xF0#8, 0x65#8, (0#1 ++ ers) ++ (0#1 ++ erd)]
  | .notB rd => [0x17#8, 0x0#4 ++ rd]
  | .notW rd => [0x17#8, 0x1#4 ++ rd]
  | .notL erd => [0x17#8, 0x3#4 ++ (0#1 ++ erd)]
  | .shalB rd => [0x10#8, 0x8#4 ++ rd]
  | .shalW rd => [0x10#8, 0x9#4 ++ rd]
  | .shalL erd => [0x10#8, 0xB#4 ++ (0#1 ++ erd)]
  | .sharB rd => [0x11#8, 0x8#4 ++ rd]
  | .sharW rd => [0x11#8, 0x9#4 ++ rd]
  | .sharL erd => [0x11#8, 0xB#4 ++ (0#1 ++ erd)]
  | .shllB rd => [0x10#8, 0x0#4 ++ rd]
  | .shllW rd => [0x10#8, 0x1#4 ++ rd]
  | .shllL erd => [0x10#8, 0x3#4 ++ (0#1 ++ erd)]
  | .shlrB rd => [0x11#8, 0x0#4 ++ rd]
  | .shlrW rd => [0x11#8, 0x1#4 ++ rd]
  | .shlrL erd => [0x11#8, 0x3#4 ++ (0#1 ++ erd)]
  | .rotlB rd => [0x12#8, 0x8#4 ++ rd]
  | .rotlW rd => [0x12#8, 0x9#4 ++ rd]
  | .rotlL erd => [0x12#8, 0xB#4 ++ (0#1 ++ erd)]
  | .rotrB rd => [0x13#8, 0x8#4 ++ rd]
  | .rotrW rd => [0x13#8, 0x9#4 ++ rd]
  | .rotrL erd => [0x13#8, 0xB#4 ++ (0#1 ++ erd)]
  | .rotxlB rd => [0x12#8, 0x0#4 ++ rd]
  | .rotxlW rd => [0x12#8, 0x1#4 ++ rd]
  | .rotxlL erd => [0x12#8, 0x3#4 ++ (0#1 ++ erd)]
  | .rotxrB rd => [0x13#8, 0x0#4 ++ rd]
  | .rotxrW rd => [0x13#8, 0x1#4 ++ rd]
  | .rotxrL erd => [0x13#8, 0x3#4 ++ (0#1 ++ erd)]
  | .bsetImmReg bit rd => [0x70#8, (0#1 ++ bit) ++ rd]
  | .bsetImmInd bit erd => [0x7D#8, (0#1 ++ erd) ++ 0x0#4, 0x70#8, (0#1 ++ bit) ++ 0x0#4]
  | .bsetImmAbs8 bit abs => [0x7F#8, abs, 0x70#8, (0#1 ++ bit) ++ 0x0#4]
  | .bsetRnReg rn rd => [0x60#8, rn ++ rd]
  | .bsetRnInd rn erd => [0x7D#8, (0#1 ++ erd) ++ 0x0#4, 0x60#8, rn ++ 0x0#4]
  | .bsetRnAbs8 rn abs => [0x7F#8, abs, 0x60#8, rn ++ 0x0#4]
  | .bclrImmReg bit rd => [0x72#8, (0#1 ++ bit) ++ rd]
  | .bclrImmInd bit erd => [0x7D#8, (0#1 ++ erd) ++ 0x0#4, 0x72#8, (0#1 ++ bit) ++ 0x0#4]
  | .bclrImmAbs8 bit abs => [0x7F#8, abs, 0x72#8, (0#1 ++ bit) ++ 0x0#4]
  | .bclrRnReg rn rd => [0x62#8, rn ++ rd]
  | .bclrRnInd rn erd => [0x7D#8, (0#1 ++ erd) ++ 0x0#4, 0x62#8, rn ++ 0x0#4]
  | .bclrRnAbs8 rn abs => [0x7F#8, abs, 0x62#8, rn ++ 0x0#4]
  | .bnotImmReg bit rd => [0x71#8, (0#1 ++ bit) ++ rd]
  | .bnotImmInd bit erd => [0x7D#8, (0#1 ++ erd) ++ 0x0#4, 0x71#8, (0#1 ++ bit) ++ 0x0#4]
  | .bnotImmAbs8 bit abs => [0x7F#8, abs, 0x71#8, (0#1 ++ bit) ++ 0x0#4]
  | .bnotRnReg rn rd => [0x61#8, rn ++ rd]
  | .bnotRnInd rn erd => [0x7D#8, (0#1 ++ erd) ++ 0x0#4, 0x61#8, rn ++ 0x0#4]
  | .bnotRnAbs8 rn abs => [0x7F#8, abs, 0x61#8, rn ++ 0x0#4]
  | .btstImmReg bit rd => [0x73#8, (0#1 ++ bit) ++ rd]
  | .btstImmInd bit erd => [0x7C#8, (0#1 ++ erd) ++ 0x0#4, 0x73#8, (0#1 ++ bit) ++ 0x0#4]
  | .btstImmAbs8 bit abs => [0x7E#8, abs, 0x73#8, (0#1 ++ bit) ++ 0x0#4]
  | .btstRnReg rn rd => [0x63#8, rn ++ rd]
  | .btstRnInd rn erd => [0x7C#8, (0#1 ++ erd) ++ 0x0#4, 0x63#8, rn ++ 0x0#4]
  | .btstRnAbs8 rn abs => [0x7E#8, abs, 0x63#8, rn ++ 0x0#4]
  | .bandReg bit rd => [0x76#8, (0#1 ++ bit) ++ rd]
  | .bandInd bit erd => [0x7C#8, (0#1 ++ erd) ++ 0x0#4, 0x76#8, (0#1 ++ bit) ++ 0x0#4]
  | .bandAbs8 bit abs => [0x7E#8, abs, 0x76#8, (0#1 ++ bit) ++ 0x0#4]
  | .biandReg bit rd => [0x76#8, (1#1 ++ bit) ++ rd]
  | .biandInd bit erd => [0x7C#8, (0#1 ++ erd) ++ 0x0#4, 0x76#8, (1#1 ++ bit) ++ 0x0#4]
  | .biandAbs8 bit abs => [0x7E#8, abs, 0x76#8, (1#1 ++ bit) ++ 0x0#4]
  | .borReg bit rd => [0x74#8, (0#1 ++ bit) ++ rd]
  | .borInd bit erd => [0x7C#8, (0#1 ++ erd) ++ 0x0#4, 0x74#8, (0#1 ++ bit) ++ 0x0#4]
  | .borAbs8 bit abs => [0x7E#8, abs, 0x74#8, (0#1 ++ bit) ++ 0x0#4]
  | .biorReg bit rd => [0x74#8, (1#1 ++ bit) ++ rd]
  | .biorInd bit erd => [0x7C#8, (0#1 ++ erd) ++ 0x0#4, 0x74#8, (1#1 ++ bit) ++ 0x0#4]
  | .biorAbs8 bit abs => [0x7E#8, abs, 0x74#8, (1#1 ++ bit) ++ 0x0#4]
  | .bxorReg bit rd => [0x75#8, (0#1 ++ bit) ++ rd]
  | .bxorInd bit erd => [0x7C#8, (0#1 ++ erd) ++ 0x0#4, 0x75#8, (0#1 ++ bit) ++ 0x0#4]
  | .bxorAbs8 bit abs => [0x7E#8, abs, 0x75#8, (0#1 ++ bit) ++ 0x0#4]
  | .bixorReg bit rd => [0x75#8, (1#1 ++ bit) ++ rd]
  | .bixorInd bit erd => [0x7C#8, (0#1 ++ erd) ++ 0x0#4, 0x75#8, (1#1 ++ bit) ++ 0x0#4]
  | .bixorAbs8 bit abs => [0x7E#8, abs, 0x75#8, (1#1 ++ bit) ++ 0x0#4]
  | .bldReg bit rd => [0x77#8, (0#1 ++ bit) ++ rd]
  | .bldInd bit erd => [0x7C#8, (0#1 ++ erd) ++ 0x0#4, 0x77#8, (0#1 ++ bit) ++ 0x0#4]
  | .bldAbs8 bit abs => [0x7E#8, abs, 0x77#8, (0#1 ++ bit) ++ 0x0#4]
  | .bildReg bit rd => [0x77#8, (1#1 ++ bit) ++ rd]
  | .bildInd bit erd => [0x7C#8, (0#1 ++ erd) ++ 0x0#4, 0x77#8, (1#1 ++ bit) ++ 0x0#4]
  | .bildAbs8 bit abs => [0x7E#8, abs, 0x77#8, (1#1 ++ bit) ++ 0x0#4]
  | .bstReg bit rd => [0x67#8, (0#1 ++ bit) ++ rd]
  | .bstInd bit erd => [0x7D#8, (0#1 ++ erd) ++ 0x0#4, 0x67#8, (0#1 ++ bit) ++ 0x0#4]
  | .bstAbs8 bit abs => [0x7F#8, abs, 0x67#8, (0#1 ++ bit) ++ 0x0#4]
  | .bistReg bit rd => [0x67#8, (1#1 ++ bit) ++ rd]
  | .bistInd bit erd => [0x7D#8, (0#1 ++ erd) ++ 0x0#4, 0x67#8, (1#1 ++ bit) ++ 0x0#4]
  | .bistAbs8 bit abs => [0x7F#8, abs, 0x67#8, (1#1 ++ bit) ++ 0x0#4]
  | .bra (.d8 disp) => [0x40#8, disp]
  | .bra (.d16 disp) => [0x58#8, 0x00#8] ++ be16 disp
  | .brn (.d8 disp) => [0x41#8, disp]
  | .brn (.d16 disp) => [0x58#8, 0x10#8] ++ be16 disp
  | .bhi (.d8 disp) => [0x42#8, disp]
  | .bhi (.d16 disp) => [0x58#8, 0x20#8] ++ be16 disp
  | .bls (.d8 disp) => [0x43#8, disp]
  | .bls (.d16 disp) => [0x58#8, 0x30#8] ++ be16 disp
  | .bcc (.d8 disp) => [0x44#8, disp]
  | .bcc (.d16 disp) => [0x58#8, 0x40#8] ++ be16 disp
  | .bcs (.d8 disp) => [0x45#8, disp]
  | .bcs (.d16 disp) => [0x58#8, 0x50#8] ++ be16 disp
  | .bne (.d8 disp) => [0x46#8, disp]
  | .bne (.d16 disp) => [0x58#8, 0x60#8] ++ be16 disp
  | .beq (.d8 disp) => [0x47#8, disp]
  | .beq (.d16 disp) => [0x58#8, 0x70#8] ++ be16 disp
  | .bvc (.d8 disp) => [0x48#8, disp]
  | .bvc (.d16 disp) => [0x58#8, 0x80#8] ++ be16 disp
  | .bvs (.d8 disp) => [0x49#8, disp]
  | .bvs (.d16 disp) => [0x58#8, 0x90#8] ++ be16 disp
  | .bpl (.d8 disp) => [0x4A#8, disp]
  | .bpl (.d16 disp) => [0x58#8, 0xA0#8] ++ be16 disp
  | .bmi (.d8 disp) => [0x4B#8, disp]
  | .bmi (.d16 disp) => [0x58#8, 0xB0#8] ++ be16 disp
  | .bge (.d8 disp) => [0x4C#8, disp]
  | .bge (.d16 disp) => [0x58#8, 0xC0#8] ++ be16 disp
  | .blt (.d8 disp) => [0x4D#8, disp]
  | .blt (.d16 disp) => [0x58#8, 0xD0#8] ++ be16 disp
  | .bgt (.d8 disp) => [0x4E#8, disp]
  | .bgt (.d16 disp) => [0x58#8, 0xE0#8] ++ be16 disp
  | .ble (.d8 disp) => [0x4F#8, disp]
  | .ble (.d16 disp) => [0x58#8, 0xF0#8] ++ be16 disp
  | .jmpInd ern => [0x59#8, (0#1 ++ ern) ++ 0x0#4]
  | .jmpAbs24 abs => [0x5A#8] ++ be24 abs
  | .jmpMemInd abs => [0x5B#8, abs]
  | .bsr (.d8 disp) => [0x55#8, disp]
  | .bsr (.d16 disp) => [0x5C#8, 0x00#8] ++ be16 disp
  | .jsrInd ern => [0x5D#8, (0#1 ++ ern) ++ 0x0#4]
  | .jsrAbs24 abs => [0x5E#8] ++ be24 abs
  | .jsrMemInd abs => [0x5F#8, abs]
  | .ldcBImm imm => [0x07#8, imm]
  | .ldcBReg rs => [0x03#8, 0x0#4 ++ rs]
  | .ldcWInd ers => [0x01#8, 0x40#8, 0x69#8, (0#1 ++ ers) ++ 0x0#4]
  | .ldcWDisp16 disp ers => [0x01#8, 0x40#8, 0x6F#8, (0#1 ++ ers) ++ 0x0#4] ++ be16 disp
  | .ldcWDisp24 disp ers => [0x01#8, 0x40#8, 0x78#8, (0#1 ++ ers) ++ 0x0#4, 0x6B#8, 0x20#8, 0x00#8] ++ be24 disp
  | .ldcWInc ers => [0x01#8, 0x40#8, 0x6D#8, (0#1 ++ ers) ++ 0x0#4]
  | .ldcWAbs16 abs => [0x01#8, 0x40#8, 0x6B#8, 0x00#8] ++ be16 abs
  | .ldcWAbs24 abs => [0x01#8, 0x40#8, 0x6B#8, 0x20#8, 0x00#8] ++ be24 abs
  | .stcBReg rd => [0x02#8, 0x0#4 ++ rd]
  | .stcWInd erd => [0x01#8, 0x40#8, 0x69#8, (1#1 ++ erd) ++ 0x0#4]
  | .stcWDisp16 disp erd => [0x01#8, 0x40#8, 0x6F#8, (1#1 ++ erd) ++ 0x0#4] ++ be16 disp
  | .stcWDisp24 disp erd => [0x01#8, 0x40#8, 0x78#8, (ign ++ erd) ++ 0x0#4, 0x6B#8, 0xA0#8, 0x00#8] ++ be24 disp
  | .stcWDec erd => [0x01#8, 0x40#8, 0x6D#8, (1#1 ++ erd) ++ 0x0#4]
  | .stcWAbs16 abs => [0x01#8, 0x40#8, 0x6B#8, 0x80#8] ++ be16 abs
  | .stcWAbs24 abs => [0x01#8, 0x40#8, 0x6B#8, 0xA0#8, 0x00#8] ++ be24 abs
  | .andc imm => [0x06#8, imm]
  | .orc imm => [0x04#8, imm]
  | .xorc imm => [0x05#8, imm]
  | .trapa vec => [0x57#8, (0#2 ++ vec) ++ 0x0#4]
  | .rts => [0x54#8, 0x70#8]
  | .rte => [0x56#8, 0x70#8]
  | .sleep => [0x01#8, 0x80#8]
  | .nop => [0x00#8, 0x00#8]
  | .eepmovB => [0x7B#8, 0x5C#8, 0x59#8, 0x8F#8]
  | .eepmovW => [0x7B#8, 0xD4#8, 0x59#8, 0x8F#8]

/-- The encoder, the ignored bit being 0 (log 13). -/
def encode (i : Instr) : List Byte := encodeWith 0#1 i

/-- The four constructors that are another name of a MOV form (R151). -/
def Instr.isAlias : Instr → Bool
  | .pushW _ | .pushL _ | .popW _ | .popL _ => true
  | _ => false

/-- The length in bytes by R144, from the bytes at hand; none where they do not settle it. -/
def instrLength (bytes : List Byte) : Option Nat :=
  match bytes with
  | 0x01#8 :: b1 :: rest =>
      match b1, rest with
      | 0x00#8, a :: b :: _ => prefixedLength a b
      | 0x40#8, a :: b :: _ => prefixedLength a b
      | 0x80#8, _ => some 2
      | 0xC0#8, _ => some 4
      | 0xD0#8, _ => some 4
      | 0xF0#8, _ => some 4
      | _, _ => none
  | b0 :: b1 :: _ =>
      if b0 ∈ [0x58#8, 0x5A#8, 0x5C#8, 0x5E#8, 0x6E#8, 0x6F#8, 0x79#8, 0x7B#8, 0x7C#8, 0x7D#8, 0x7E#8, 0x7F#8] then
        some 4
      else if b0 = 0x6A#8 ∨ b0 = 0x6B#8 then absLength 4 (hiNib b1)
      else if b0 = 0x78#8 then some 8
      else if b0 = 0x7A#8 then some 6
      else some 2
  | _ => none
where
  /-- The length of a form with an absolute address, `base` with 16 bits of it, by its `sub4` nibble. -/
  absLength (base : Nat) (sub4 : Nibble) : Option Nat :=
    if sub4 = 0x0#4 ∨ sub4 = 0x8#4 then some base
    else if sub4 = 0x2#4 ∨ sub4 = 0xA#4 then some (base + 2)
    else none
  /-- The length of an instruction that begins with `01 00` or `01 40`, by its second word. -/
  prefixedLength (a b : Byte) : Option Nat :=
    if a = 0x69#8 ∨ a = 0x6D#8 then some 4
    else if a = 0x6F#8 then some 6
    else if a = 0x6B#8 then absLength 6 (hiNib b)
    else if a = 0x78#8 then some 10
    else none

/-- The longest instruction, in bytes (R111). -/
abbrev maxLength : Nat := 10

/-- `n` bytes of `w`, most significant first. -/
def bigEndianBytes : Nat → Nat → List Byte
  | 0, _ => []
  | n + 1, w => BitVec.ofNat 8 (w >>> (8 * n)) :: bigEndianBytes n w

/-- `n` 16-bit words of `w`, the least significant word first, each most significant byte first. -/
def wordsLowFirst : Nat → Nat → List Byte
  | 0, _ => []
  | n + 1, w => BitVec.ofNat 8 (w >>> 8) :: BitVec.ofNat 8 w :: wordsLowFirst n (w >>> 16)

/-- Bytes filled up with zeros to the longest instruction. -/
def padBytes (bytes : List Byte) : List Byte := bytes ++ List.replicate (maxLength - bytes.length) 0x00#8

/-- The bytes decode to an instruction of exactly `n` bytes. -/
def decodesTo (n : Nat) (bytes : List Byte) : Bool :=
  match decode bytes with
  | .ok _ len => len == n
  | _ => false

/-- The bytes, first byte first, of a table word of `nbits` bits, filled up with zeros. The word is numbered as
spec/opcode_table.json numbers it (R112: one big-endian integer, bit 0 in the last byte); a word that is no instruction
so is read with its least significant 16 bits as the first word (log 28). -/
def tableBytes (nbits w : Nat) : List Byte :=
  let n := nbits / 8
  let big := padBytes (bigEndianBytes n w)
  let low := padBytes (wordsLowFirst ((n + 1) / 2) w)
  if decodesTo n big then big else if decodesTo n low then low else big

/-- The instruction that the decoder reads from a table word (log 28). -/
def decodeTableWord (nbits w : Nat) : Option Instr :=
  match decode (tableBytes nbits w) with
  | .ok i _ => some i
  | _ => none

end Sys2Proof
end

