-- ==== Sys2Proof/Config.lean ====
section
/-!
DEFINITION. What an implementation fixes for a whole run (the parameters of spec/00_scope.md R6 that are not state),
and the free values: every "any value" of spec/93_implementation_defined.md.
-/

namespace Sys2Proof

/-- `NVEC`, the number of entries of the exception vector table: 61, the value the source shows for "the LSI in
question" (spec/00_scope.md R6, spec/20_memory.md R96). DESIGN CHOICE, log 11. -/
abbrev Config.vectorCount : Nat := 61

/-- A FREE VALUE of `w` bits, the `draw`-th one of the run. It has no body: nothing can be proved of it but that it is
the same constant each time it is named (spec/93_implementation_defined.md, treatment "any value"; log 8). -/
opaque Config.freeBits (w draw : Nat) : BitVec w

/-- The operating mode, selected by the LSI's mode pins (spec/10_state.md R47). -/
inductive Mode where
  /-- 64-kbyte address space, 16-bit addresses (R72) -/
  | normal
  /-- 16-Mbyte address space, 24-bit addresses (R71) -/
  | advanced
deriving DecidableEq, Repr

/-- The class `MEMMAP` gives an address (spec/20_memory.md R95). -/
inductive MemClass where
  /-- read and written -/
  | ram
  /-- read only: a store is refused -/
  | rom
  /-- a device register, whose behaviour the spec does not give -/
  | io
  /-- no memory: no access has a step -/
  | none
deriving DecidableEq, Repr

/-- One region of `MEMMAP`: the addresses `first` to `last`, both included. -/
structure Region where
  first : Nat
  last : Nat
  kind : MemClass
deriving DecidableEq, Repr

/-- A vector number, 0 to `NVEC` - 1 (spec/20_memory.md R97). -/
abbrev VectorNum := Fin Config.vectorCount

/-- One pending interrupt request `(v, nmi)` that the oracle presents (spec/60_exceptions.md R440). -/
structure Request where
  vector : VectorNum
  nmi : Bool
deriving DecidableEq, Repr

/-- The parameters of spec/00_scope.md R6 that are constant during a run: `MODE`, `MEMMAP`, `UI_IS_MASK` and `ACCEPT`.
`MEMMAP` is a list of regions; an address in none of them is `ram` (log 5). `ACCEPT` is given by R442 at
(I, UI) = (0, 0) and (1, 1); the two lists name the maskable vectors accepted at (0, 1) and at (1, 0) (log 10). -/
structure Platform where
  mode : Mode
  map : List Region
  uiIsMask : Bool
  acceptUiOnly : List VectorNum
  acceptIOnly : List VectorNum
deriving DecidableEq, Repr

/-- The platform of `State.reset`: advanced mode, every address `ram`, `UI_IS_MASK = false`. DESIGN CHOICE, logs 4, 5. -/
abbrev Config.defaultPlatform : Platform :=
  { mode := .advanced, map := [], uiIsMask := false, acceptUiOnly := [], acceptIOnly := [] }

end Sys2Proof
end

