-- ==== Sys2Proof/Machine/State.lean ====
section
/-!
DEFINITION. The machine's state as plain data, its stops by name, and the state right after reset. Every piece of state
the spec gives the machine is a field (INVENTORY.md, State).
-/

namespace Sys2Proof.Machine

/-- Memory: the bytes that hold a value, as (bus address, byte) pairs with strictly rising addresses. An unlisted
address holds NO value (spec/20_memory.md R95, spec/70_reset_and_hazards.md R483): reading it faults, so no entry can
equal what an unlisted address reads as. Log 6. -/
abbrev Memory := List Host.Cell

/-- The canonical form of a memory: addresses strictly rising, and every address a 24-bit one (R71). -/
abbrev Memory.wf (m : Memory) : Prop :=
  m.Pairwise (fun x y => x.1 < y.1) ∧ ∀ c ∈ m, c.1 < 16777216

/-- Why the machine stops with a fault (spec/70_reset_and_hazards.md R484, kinds "fault" and "stuck"). -/
inductive Fault where
  /-- A read or an instruction fetch met a memory byte that holds no value. Raised by every memory read
  (R95, R482; D4). Safe: the hardware goes on with whatever the byte held. -/
  | noValue
  /-- STUCK: an access to an address of class `none`, for which the machine has no step. Raised by every memory
  access (R95; D12). Safe: the hardware goes on in a way the source does not give. -/
  | noMemory
deriving DecidableEq, Repr

/-- Why the machine refuses a step (spec/70_reset_and_hazards.md R484, kind "refused": the program is not one the spec
gives meaning to). -/
inductive Refusal where
  /-- `exec` has no meaning for this instruction yet. No arm answers it now. Safe. -/
  | notModelled (mnemonic : String)
  /-- The bytes at PC match no row of the encoding table. Raised by `step` (spec/30_encoding.md R148; D7). Safe. -/
  | undefinedEncoding
  /-- A control transfer to an odd address. Raised by branches, jumps, returns, exception entry and the start
  sequence (spec/10_state.md R42, spec/45_branch.md R360; D20). Safe. -/
  | oddTarget
  /-- The data register of a post-increment load or a pre-decrement store overlaps the address register, or the
  instruction is `JSR @ER7` (spec/40_data_transfer.md R187, spec/45_branch.md R380; D17). Safe. -/
  | registerOverlap
  /-- A store to an address of class `rom` (spec/20_memory.md R95; D12). Safe. -/
  | storeToRom
  /-- An access to an address of class `io`, whose device the spec does not give (R95, R101; U16). Safe. -/
  | ioAccess
  /-- A fetch of an instruction byte that the program has itself stored to (R105; D14). Safe. -/
  | modifiedCode
deriving DecidableEq, Repr

/-- What a part of a step answers: a value, or one of the two kinds of stop. -/
abbrev Res (α : Type) := Host.Outcome α Fault Refusal

/-- The state of the machine. -/
structure State where
  /-- ER0 to ER7 (spec/10_state.md R30); ER7 is the stack pointer (R35) -/
  er : Vector Long 8
  /-- the program counter, 24 bits in both modes (R40) -/
  pc : Addr
  /-- the condition code register I UI H U N Z V C, bit 7 to bit 0 (R50) -/
  ccr : Byte
  /-- set by SLEEP, cleared by exception entry (R62) -/
  sleeping : Bool
  /-- the bytes of memory that hold a value, by bus address (spec/20_memory.md R70, R95) -/
  mem : Memory
  /-- the bus addresses the program has stored to since the start, strictly rising (R105) -/
  stored : List Nat
  /-- what the interrupt oracle presents: the head at the next exception check, then the rest; nothing once the list
  is empty (spec/60_exceptions.md R440; log 9) -/
  irq : List (List Request)
  /-- the start sequence of spec/70_reset_and_hazards.md R481 (START = vector) is still to run (log 3) -/
  startPending : Bool
  /-- the model's own: how many free values have been drawn (log 8) -/
  draws : Nat
  /-- the parameters that are constant during a run (spec/00_scope.md R6) -/
  platform : Platform
deriving DecidableEq, Repr

/-- The state of `START = vector` before its start sequence has run (spec/70_reset_and_hazards.md R481, R482), on a
platform `p` with the load image `image` (`MEM0`, R483) and the interrupts `irq`: I = 1; the other CCR bits, the general
registers and PC are 0 (DESIGN CHOICE, logs 1, 2, 3). The first step loads PC from vector entry 0. -/
def State.startVector (p : Platform) (image : Memory) (irq : List (List Request)) : State :=
  { er := Vector.replicate 8 0#32, pc := 0#24, ccr := 0x80#8, sleeping := false, mem := image, stored := [],
    irq := irq, startPending := true, draws := 0, platform := p }

/-- The state of `START = direct(pc0, sp0)` (R481): PC = pc0, ER7 = sp0, I = 1, everything else as `startVector`. -/
def State.startDirect (p : Platform) (image : Memory) (irq : List (List Request)) (pc0 : Addr) (sp0 : Long) : State :=
  { State.startVector p image irq with pc := pc0, er := (Vector.replicate 8 0#32).set 7 sp0, startPending := false }

/-- The machine right after reset: `START = vector`, nothing loaded, no interrupt request, on the default platform
(logs 1 to 6, 9). -/
def State.reset : State := State.startVector Config.defaultPlatform [] []

end Sys2Proof.Machine
end

