-- ==== Sys2Proof/Machine/Flags.lean ====
section
/-!
DEFINITION. The condition code register and every flag computation of the spec: the helpers `add_N`, `sub_N` and `NZ_N`
(spec/00_scope.md R15, R16, R17), the shift results (spec/43_shift.md R300), the DAA and DAS tables (spec/41_arithmetic.md
R226, R227), division (R248, R250), and the sixteen branch conditions (spec/45_branch.md R362 to R377).
-/

namespace Sys2Proof.Machine

/-- The eight bits of CCR by name (spec/10_state.md R50). -/
inductive CcrBit where
  | i | ui | h | u | n | z | v | c
deriving DecidableEq, Repr

/-- The position of a CCR bit (R50). -/
def CcrBit.pos : CcrBit → Nat
  | .i => 7 | .ui => 6 | .h => 5 | .u => 4 | .n => 3 | .z => 2 | .v => 1 | .c => 0

/-- `v` with bit `k` made `b` and every other bit kept. -/
def putBit {w : Nat} (v : BitVec w) (k : Nat) (b : Bool) : BitVec w :=
  if b then v ||| (1#w <<< k) else v &&& ~~~(1#w <<< k)

/-- One bit of a CCR value. -/
def ccrGet (ccr : Byte) (f : CcrBit) : Bool := ccr.getLsbD f.pos

/-- A CCR value with one bit changed. -/
def ccrPut (ccr : Byte) (f : CcrBit) (b : Bool) : Byte := putBit ccr f.pos b

/-- A CCR value with N and Z from the data `v` (`NZ_N`, spec/00_scope.md R17). -/
def ccrPutNZ {w : Nat} (ccr : Byte) (v : BitVec w) : Byte :=
  ccrPut (ccrPut ccr .n v.msb) .z (v == 0#w)

/-- A CCR value with N and Z from `v` and V cleared: what MOV (spec/40_data_transfer.md R170), the logic operations
(spec/42_logic.md R280), EXTU and EXTS write. -/
def ccrPutNZV0 {w : Nat} (ccr : Byte) (v : BitVec w) : Byte :=
  ccrPut (ccrPutNZ ccr v) .v false

/-- What an addition or a subtraction gives: the result and its five flags (spec/00_scope.md R15, R16). -/
structure Arith (w : Nat) where
  result : BitVec w
  h : Bool
  n : Bool
  z : Bool
  v : Bool
  c : Bool
deriving DecidableEq, Repr

/-- The number of low bits below the half-carry boundary: 4, 12, 28 for 8, 16, 32 bits, so that H reports a carry out
of bit 3, 11, 27 (R15). -/
def halfWidth (w : Nat) : Nat := w - 4

/-- `add_N(a, b, cin)` of R15, computed on exact integers. -/
def addN {w : Nat} (a b : BitVec w) (cin : Bool) : Arith w :=
  let s := a.toNat + b.toNat + cin.toNat
  let r := BitVec.ofNat w s
  { result := r
    c := decide (2 ^ w ≤ s)
    h := decide (2 ^ halfWidth w ≤ a.toNat % 2 ^ halfWidth w + b.toNat % 2 ^ halfWidth w + cin.toNat)
    v := (a.msb == b.msb) && (r.msb != a.msb)
    n := r.msb
    z := r == 0#w }

/-- `sub_N(a, b, bin)` of R16: `a - b - bin`, a being the destination operand. C is a borrow. -/
def subN {w : Nat} (a b : BitVec w) (bin : Bool) : Arith w :=
  let r := a - b - BitVec.ofNat w bin.toNat
  { result := r
    c := decide (a.toNat < b.toNat + bin.toNat)
    h := decide (a.toNat % 2 ^ halfWidth w < b.toNat % 2 ^ halfWidth w + bin.toNat)
    v := (a.msb != b.msb) && (r.msb != a.msb)
    n := r.msb
    z := r == 0#w }

/-- A CCR value with H, N, Z, V, C from an addition or subtraction (ADD, SUB, CMP, NEG). -/
def ccrPutArith {w : Nat} (ccr : Byte) (t : Arith w) : Byte :=
  ccrPut (ccrPut (ccrPut (ccrPut (ccrPut ccr .h t.h) .n t.n) .z t.z) .v t.v) .c t.c

/-- As `ccrPutArith` with a sticky Z: "When the operation result is 0, the value prior to the operation is held;
otherwise, it is cleared to 0" (ADDX, SUBX; spec/41_arithmetic.md R216, R217). -/
def ccrPutArithX {w : Nat} (ccr : Byte) (t : Arith w) : Byte :=
  ccrPutArith ccr { t with z := ccrGet ccr .z && t.z }

/-- A CCR value with N, Z, V alone from an addition or subtraction (INC, DEC; R218 to R223). -/
def ccrPutNZV {w : Nat} (ccr : Byte) (t : Arith w) : Byte :=
  ccrPut (ccrPut (ccrPut ccr .n t.n) .z t.z) .v t.v

/-- What a shift or rotate gives: the new contents, the bit shifted out, and V (spec/43_shift.md R300). -/
structure Shifted (w : Nat) where
  result : BitVec w
  c : Bool
  v : Bool
deriving DecidableEq, Repr

/-- SHLL: 0 enters at bit 0, the MSB goes to C (R303). -/
def shll {w : Nat} (d : BitVec w) : Shifted w := ⟨d <<< 1, d.msb, false⟩

/-- SHAL: as SHLL, and V = 1 when the sign changes (R301). -/
def shal {w : Nat} (d : BitVec w) : Shifted w := ⟨d <<< 1, d.msb, d.getLsbD (w - 1) != d.getLsbD (w - 2)⟩

/-- SHLR: 0 enters at the MSB, bit 0 goes to C (R304). -/
def shlr {w : Nat} (d : BitVec w) : Shifted w := ⟨d >>> 1, d.getLsbD 0, false⟩

/-- SHAR: the MSB is kept, bit 0 goes to C (R302). -/
def shar {w : Nat} (d : BitVec w) : Shifted w := ⟨putBit (d >>> 1) (w - 1) d.msb, d.getLsbD 0, false⟩

/-- ROTL: the MSB goes to C and round into bit 0 (R305). -/
def rotl {w : Nat} (d : BitVec w) : Shifted w := ⟨putBit (d <<< 1) 0 d.msb, d.msb, false⟩

/-- ROTR: bit 0 goes to C and round into the MSB (R306). -/
def rotr {w : Nat} (d : BitVec w) : Shifted w := ⟨putBit (d >>> 1) (w - 1) (d.getLsbD 0), d.getLsbD 0, false⟩

/-- ROTXL: the old C enters at bit 0, the MSB goes to C (R307). -/
def rotxl {w : Nat} (d : BitVec w) (c : Bool) : Shifted w := ⟨putBit (d <<< 1) 0 c, d.msb, false⟩

/-- ROTXR: the old C enters at the MSB, bit 0 goes to C (R308). -/
def rotxr {w : Nat} (d : BitVec w) (c : Bool) : Shifted w := ⟨putBit (d >>> 1) (w - 1) c, d.getLsbD 0, false⟩

/-- A CCR value after a shift or rotate: N, Z from the new contents, V and C as the shift gives them (R300). -/
def ccrPutShift {w : Nat} (ccr : Byte) (t : Shifted w) : Byte :=
  ccrPut (ccrPut (ccrPutNZ ccr t.result) .v t.v) .c t.c

/-- One row of the DAA or the DAS table (spec/41_arithmetic.md R226, R227): C before, the range of the upper digit,
H before, the range of the lower digit, the value added and C after. -/
structure BcdRow where
  c : Bool
  upperFrom : Nat
  upperTo : Nat
  h : Bool
  lowerFrom : Nat
  lowerTo : Nat
  added : Byte
  cAfter : Bool
deriving DecidableEq, Repr

/-- The adjustment table of DAA (R226). PRESUMED by the spec (G3), log 20. -/
def daaTable : List BcdRow :=
  [ ⟨false, 0, 9, false, 0, 9, 0x00#8, false⟩, ⟨false, 0, 8, false, 10, 15, 0x06#8, false⟩,
    ⟨false, 0, 9, true, 0, 3, 0x06#8, false⟩, ⟨false, 10, 15, false, 0, 9, 0x60#8, true⟩,
    ⟨false, 9, 15, false, 10, 15, 0x66#8, true⟩, ⟨false, 10, 15, true, 0, 3, 0x66#8, true⟩,
    ⟨true, 0, 2, false, 0, 9, 0x60#8, true⟩, ⟨true, 0, 2, false, 10, 15, 0x66#8, true⟩,
    ⟨true, 0, 3, true, 0, 3, 0x66#8, true⟩ ]

/-- The adjustment table of DAS (R227). PRESUMED by the spec (G3), log 20. -/
def dasTable : List BcdRow :=
  [ ⟨false, 0, 9, false, 0, 9, 0x00#8, false⟩, ⟨false, 0, 8, true, 6, 15, 0xFA#8, false⟩,
    ⟨true, 7, 15, false, 0, 9, 0xA0#8, true⟩, ⟨true, 6, 15, true, 6, 15, 0x9A#8, true⟩ ]

/-- The row matches (C, upper digit, H, lower digit). -/
def BcdRow.fits (r : BcdRow) (c h : Bool) (b : Byte) : Bool :=
  r.c == c && r.h == h && decide (r.upperFrom ≤ b.toNat / 16) && decide (b.toNat / 16 ≤ r.upperTo)
    && decide (r.lowerFrom ≤ b.toNat % 16) && decide (b.toNat % 16 ≤ r.lowerTo)

/-- "find the row matching (C, Rd[7:4], H, Rd[3:0])" (R226, R227). -/
def bcdLookup (table : List BcdRow) (c h : Bool) (b : Byte) : Option BcdRow :=
  table.find? fun r => r.fits c h b

/-- An unsigned division: remainder over quotient, the quotient `q` bits wide, or none when the divisor is 0 or the
quotient does not fit (spec/41_arithmetic.md R230, R231, R250). -/
def divUnsigned (q : Nat) (n : BitVec (q + q)) (d : BitVec q) : Option (BitVec (q + q)) :=
  if d.toNat = 0 ∨ 2 ^ q ≤ n.toNat / d.toNat then none
  else some (BitVec.ofNat q (n.toNat % d.toNat) ++ BitVec.ofNat q (n.toNat / d.toNat))

/-- A signed division, rounded toward zero (R248): remainder over quotient, or none when the divisor is 0 or the
quotient is outside the signed range of `q` bits (R234, R235, R250). -/
def divSigned (q : Nat) (n : BitVec (q + q)) (d : BitVec q) : Option (BitVec (q + q)) :=
  if d.toInt = 0 ∨ n.toInt.tdiv d.toInt < -(2 ^ (q - 1)) ∨ 2 ^ (q - 1) ≤ n.toInt.tdiv d.toInt then none
  else some (BitVec.ofInt q (n.toInt.tmod d.toInt) ++ BitVec.ofInt q (n.toInt.tdiv d.toInt))

/-- N after a signed division: set when the quotient is negative; none where R234 and R235 leave it any value (divisor 0,
a quotient that does not fit, a zero quotient of operands with opposite signs). The rules do not say whether 0 has a
sign; DESIGN CHOICE (unsafe, notes/assumptions/38.md): it has none, so dividend 0 with a negative divisor gives N = 0. -/
def divSignedN (q : Nat) (n : BitVec (q + q)) (d : BitVec q) : Option Bool :=
  if divSigned q n d = none then none
  else if n.toInt.tdiv d.toInt = 0 ∧ ((n.toInt < 0 ∧ 0 < d.toInt) ∨ (0 < n.toInt ∧ d.toInt < 0)) then none
  else some (decide (n.toInt.tdiv d.toInt < 0))

/-- The sixteen conditions of Bcc (spec/30_encoding.md R143). -/
inductive Cond where
  | bra | brn | bhi | bls | bcc | bcs | bne | beq | bvc | bvs | bpl | bmi | bge | blt | bgt | ble
deriving DecidableEq, Repr

/-- When a condition holds (spec/45_branch.md R362 to R377). -/
def Cond.holds (k : Cond) (ccr : Byte) : Bool :=
  let n := ccrGet ccr .n
  let z := ccrGet ccr .z
  let v := ccrGet ccr .v
  let c := ccrGet ccr .c
  match k with
  | .bra => true
  | .brn => false
  | .bhi => !(c || z)
  | .bls => c || z
  | .bcc => !c
  | .bcs => c
  | .bne => !z
  | .beq => z
  | .bvc => !v
  | .bvs => v
  | .bpl => !n
  | .bmi => n
  | .bge => n == v
  | .blt => n != v
  | .bgt => !z && (n == v)
  | .ble => z || (n != v)

end Sys2Proof.Machine
end

