-- ==== Sys2Proof/Machine/Operands.lean ====
section
/-!
DEFINITION. Operands: the named updates of State, the general registers in their three widths (spec/10_state.md R30 to R33,
spec/30_encoding.md R113 to R115), the effective addresses (spec/20_memory.md R83 to R90), and the shared ways an
instruction writes its result and its flags. Every read and write of a register goes through this file.
-/

namespace Sys2Proof.Machine

/-! ### Named updates of the state -/

/-- The state with the register file replaced. -/
def State.setEr (s : State) (v : Vector Long 8) : State := { s with er := v }

/-- The state with PC replaced. -/
def State.setPc (s : State) (v : Addr) : State := { s with pc := v }

/-- The state with CCR replaced. -/
def State.setCcr (s : State) (v : Byte) : State := { s with ccr := v }

/-- The state with `sleeping` replaced. -/
def State.setSleeping (s : State) (v : Bool) : State := { s with sleeping := v }

/-- The state with the memory and the record of stored addresses replaced. -/
def State.setMem (s : State) (m : Memory) (st : List Nat) : State := { s with mem := m, stored := st }

/-- The state with the oracle's future replaced. -/
def State.setIrq (s : State) (v : List (List Request)) : State := { s with irq := v }

/-- The state with `startPending` replaced. -/
def State.setStartPending (s : State) (v : Bool) : State := { s with startPending := v }

/-- The state with `n` more free values drawn. -/
def State.drawn (s : State) (n : Nat) : State := { s with draws := s.draws + n }

/-! ### General registers -/

/-- `ER[n]` (spec/00_scope.md R11). -/
def readEr (s : State) (n : ErNum) : Long := s.er[n.toNat]'n.isLt

/-- `ER[n] <- v` (R11). -/
def writeEr (s : State) (n : ErNum) (v : Long) : State := s.setEr (s.er.set n.toNat v n.isLt)

/-- The register ERn that contains the 8- or 16-bit register with field number `k` (R113, R114). -/
def erOf (k : RegNum) : ErNum := k.extractLsb' 0 3

/-- The top bit of a register field: set for R0L to R7L among the 8-bit registers and for E0 to E7 among the 16-bit
registers (R113, R114). -/
def upperHalf (k : RegNum) : Bool := k.getLsbD 3

/-- `R8[k]`: RnH for k = 0 to 7, RnL for k = 8 to 15 (R11, R113). -/
def readR8 (s : State) (k : RegNum) : Byte :=
  if upperHalf k then (readEr s (erOf k)).extractLsb' 0 8 else (readEr s (erOf k)).extractLsb' 8 8

/-- `R16[k]`: Rn for k = 0 to 7, En for k = 8 to 15 (R11, R114). -/
def readR16 (s : State) (k : RegNum) : Word :=
  if upperHalf k then (readEr s (erOf k)).extractLsb' 16 16 else (readEr s (erOf k)).extractLsb' 0 16

/-- A longword with its 8 bits RnL (`low`) or RnH replaced, the other bits kept (spec/10_state.md R33). -/
def putByteIn (x : Long) (low : Bool) (v : Byte) : Long :=
  if low then x.extractLsb' 8 24 ++ v else x.extractLsb' 16 16 ++ v ++ x.extractLsb' 0 8

/-- A longword with its 16 bits En (`upper`) or Rn replaced, the other bits kept (R33). -/
def putWordIn (x : Long) (upper : Bool) (v : Word) : Long :=
  if upper then v ++ x.extractLsb' 0 16 else x.extractLsb' 16 16 ++ v

/-- `R8[k] <- v`. -/
def writeR8 (s : State) (k : RegNum) (v : Byte) : State :=
  writeEr s (erOf k) (putByteIn (readEr s (erOf k)) (upperHalf k) v)

/-- `R16[k] <- v`. -/
def writeR16 (s : State) (k : RegNum) (v : Word) : State :=
  writeEr s (erOf k) (putWordIn (readEr s (erOf k)) (upperHalf k) v)

/-- The stack pointer's number: SP = ER7 (spec/10_state.md R35). -/
def spNum : ErNum := 7#3

/-- ERn with `k` added, on all 32 bits in both modes (post-increment R86, D26). -/
def bumpEr (s : State) (n : ErNum) (k : Long) : State := writeEr s n (readEr s n + k)

/-- ERn with `k` subtracted, on all 32 bits in both modes (pre-decrement R87, D26). -/
def dropEr (s : State) (n : ErNum) (k : Long) : State := writeEr s n (readEr s n - k)

/-! ### Effective addresses -/

/-- The address a register holds: its low 24 bits (spec/20_memory.md R83). -/
def addrOf (v : Long) : Addr := v.extractLsb' 0 24

/-- `@ERn` (R83). -/
def eaInd (s : State) (n : ErNum) : Addr := addrOf (readEr s n)

/-- `@(d:16,ERn)` (R84): the displacement is sign-extended, the sum is modulo 2^24. -/
def eaDisp16 (s : State) (d : Word) (n : ErNum) : Addr := addrOf (readEr s n) + d.signExtend 24

/-- `@(d:24,ERn)` (R85). -/
def eaDisp24 (s : State) (d : BitVec 24) (n : ErNum) : Addr := addrOf (readEr s n) + d

/-- `@aa:8`: the upper 16 bits are all 1 (R88). -/
def eaAbs8 (a : Byte) : Addr := 0xFFFF#16 ++ a

/-- `@aa:16`: sign-extended (R89). -/
def eaAbs16 (a : Word) : Addr := a.signExtend 24

/-- `@aa:24` (R90). -/
def eaAbs24 (a : BitVec 24) : Addr := a

/-- The data register of a post-increment or pre-decrement form is a part of its address register
(spec/40_data_transfer.md R187). -/
def partOf (k : RegNum) (n : ErNum) : Bool := erOf k == n

/-! ### Results -/

/-- Write an 8-bit result; N and Z from it, V cleared (MOV, AND, OR, XOR, NOT). -/
def resultR8 (s : State) (k : RegNum) (v : Byte) : State := (writeR8 s k v).setCcr (ccrPutNZV0 s.ccr v)

/-- Write a 16-bit result; N and Z from it, V cleared (MOV, logic, EXTU, EXTS). -/
def resultR16 (s : State) (k : RegNum) (v : Word) : State := (writeR16 s k v).setCcr (ccrPutNZV0 s.ccr v)

/-- Write a 32-bit result; N and Z from it, V cleared (MOV, logic, EXTU, EXTS). -/
def resultEr (s : State) (n : ErNum) (v : Long) : State := (writeEr s n v).setCcr (ccrPutNZV0 s.ccr v)

/-- Write the result of an 8-bit addition or subtraction and its flags H, N, Z, V, C. -/
def arithR8 (s : State) (k : RegNum) (t : Arith 8) : State := (writeR8 s k t.result).setCcr (ccrPutArith s.ccr t)

/-- Write the result of a 16-bit addition or subtraction and its flags H, N, Z, V, C. -/
def arithR16 (s : State) (k : RegNum) (t : Arith 16) : State := (writeR16 s k t.result).setCcr (ccrPutArith s.ccr t)

/-- Write the result of a 32-bit addition or subtraction and its flags H, N, Z, V, C. -/
def arithEr (s : State) (n : ErNum) (t : Arith 32) : State := (writeEr s n t.result).setCcr (ccrPutArith s.ccr t)

/-- Write the result of ADDX or SUBX and its flags, Z being sticky (spec/41_arithmetic.md R216, R217). -/
def arithXR8 (s : State) (k : RegNum) (t : Arith 8) : State := (writeR8 s k t.result).setCcr (ccrPutArithX s.ccr t)

/-- Write the result of INC.B or DEC.B and N, Z, V alone. -/
def countR8 (s : State) (k : RegNum) (t : Arith 8) : State := (writeR8 s k t.result).setCcr (ccrPutNZV s.ccr t)

/-- Write the result of INC.W or DEC.W and N, Z, V alone. -/
def countR16 (s : State) (k : RegNum) (t : Arith 16) : State := (writeR16 s k t.result).setCcr (ccrPutNZV s.ccr t)

/-- Write the result of INC.L or DEC.L and N, Z, V alone. -/
def countEr (s : State) (n : ErNum) (t : Arith 32) : State := (writeEr s n t.result).setCcr (ccrPutNZV s.ccr t)

/-- Set H, N, Z, V, C from a subtraction whose result is dropped (CMP). -/
def compareFlags {w : Nat} (s : State) (t : Arith w) : State := s.setCcr (ccrPutArith s.ccr t)

/-- Write what a shift or rotate of an 8-bit register gives. -/
def shiftR8 (s : State) (k : RegNum) (t : Shifted 8) : State := (writeR8 s k t.result).setCcr (ccrPutShift s.ccr t)

/-- Write what a shift or rotate of a 16-bit register gives. -/
def shiftR16 (s : State) (k : RegNum) (t : Shifted 16) : State := (writeR16 s k t.result).setCcr (ccrPutShift s.ccr t)

/-- Write what a shift or rotate of a 32-bit register gives. -/
def shiftEr (s : State) (n : ErNum) (t : Shifted 32) : State := (writeEr s n t.result).setCcr (ccrPutShift s.ccr t)

/-- A bit number taken from the low 3 bits of an 8-bit register (spec/44_bit_manipulation.md R320). -/
def bitNumberIn (s : State) (rn : RegNum) : BitVec 3 := (readR8 s rn).extractLsb' 0 3

/-- The specified bit of a byte (R320). -/
def bitOf (b : Byte) (n : BitVec 3) : Bool := b.getLsbD n.toNat

/-- A byte with the specified bit made `v`, the seven other bits kept (R320). -/
def withBit (b : Byte) (n : BitVec 3) (v : Bool) : Byte := putBit b n.toNat v

/-- The C flag replaced, every other CCR bit kept. -/
def putC (s : State) (v : Bool) : State := s.setCcr (ccrPut s.ccr .c v)

/-- The Z flag replaced, every other CCR bit kept. -/
def putZ (s : State) (v : Bool) : State := s.setCcr (ccrPut s.ccr .z v)

/-! ### Free values -/

/-- The value where the spec gives one, otherwise a free value (log 8). -/
def orFree {w : Nat} (s : State) (o : Option (BitVec w)) : BitVec w :=
  match o with
  | some v => v
  | none => Config.freeBits w s.draws

/-- The state after `orFree`: one more free value is drawn where it was needed. -/
def afterFree {α : Type} (s : State) (o : Option α) : State :=
  match o with
  | some _ => s
  | none => s.drawn 1

/-- As `orFree`, for one flag. -/
def orFreeBit (s : State) (o : Option Bool) : Bool :=
  match o with
  | some v => v
  | none => (Config.freeBits 1 s.draws).getLsbD 0

end Sys2Proof.Machine
end

