-- ==== Sys2Proof/Machine/Ops.lean ====
section
/-!
DEFINITION. The shared operations: memory (spec/20_memory.md R70 to R81, R95), the stack, control transfer, exception entry
(spec/60_exceptions.md R445) and the return from it (spec/46_system_control.md R390), the exception check (R441 to R446),
the start sequence (spec/70_reset_and_hazards.md R481) and the fetching of an instruction (spec/00_scope.md R18).
-/

namespace Sys2Proof.Machine

/-- Go on with the value of a part of a step, or stop as it stopped. -/
def andThen {α β : Type} (r : Res α) (f : α → Res β) : Res β :=
  match r with
  | .next a => f a
  | .fault e => .fault e
  | .refused e => .refused e

/-! ### Memory as data -/

/-- The byte an address holds, none where it holds no value. -/
def memGet (m : Memory) (a : Nat) : Option Byte :=
  match m with
  | [] => none
  | (b, v) :: rest => if b = a then some v else memGet rest a

/-- Memory with one byte stored, addresses still strictly rising. -/
def memSet (m : Memory) (a : Nat) (v : Byte) : Memory :=
  match m with
  | [] => [(a, v)]
  | (b, w) :: rest =>
    if a < b then (a, v) :: (b, w) :: rest
    else if a = b then (a, v) :: rest
    else (b, w) :: memSet rest a v

/-- A strictly rising list of addresses with one more address in it. -/
def addAddress (l : List Nat) (a : Nat) : List Nat :=
  match l with
  | [] => [a]
  | b :: rest => if a < b then a :: b :: rest else if a = b then b :: rest else b :: addAddress rest a

/-! ### Memory accesses -/

/-- `busaddr` (R72): 24 bits in advanced mode, 16 bits in normal mode. -/
def busAddr (p : Platform) (a : Addr) : Nat :=
  match p.mode with
  | .advanced => a.toNat
  | .normal => a.toNat % 65536

/-- The class `MEMMAP` gives a bus address (R95): that of the first region that holds it, `ram` outside them (log 5). -/
def classOf (p : Platform) (b : Nat) : MemClass :=
  match p.map.find? fun r => decide (r.first ≤ b) && decide (b ≤ r.last) with
  | some r => r.kind
  | none => .ram

/-- The address with bit 0 cleared: word and longword accesses ignore it (R77, R80). -/
def evenAddr (a : Addr) : Addr := a &&& 0xFFFFFE#24

/-- `MemRead(a, 1)` (R76, R95). -/
def readByte (s : State) (a : Addr) : Res Byte :=
  match classOf s.platform (busAddr s.platform a) with
  | .io => .refused .ioAccess
  | .none => .fault .noMemory
  | _ =>
    match memGet s.mem (busAddr s.platform a) with
    | some v => .next v
    | none => .fault .noValue

/-- `MemRead(a, 2)` (R77): big-endian, the byte at the even address first. -/
def readWord (s : State) (a : Addr) : Res Word :=
  andThen (readByte s (evenAddr a)) fun h =>
  andThen (readByte s (evenAddr a + 1#24)) fun l =>
  .next (h ++ l)

/-- `MemRead(a, 4)` (R78): two word accesses, the upper word first. -/
def readLong (s : State) (a : Addr) : Res Long :=
  andThen (readWord s (evenAddr a)) fun h =>
  andThen (readWord s (evenAddr a + 2#24)) fun l =>
  .next (h ++ l)

/-- `MemWrite(a, 1, v)` (R79, R95). The address is recorded as stored to (R105). -/
def writeByte (s : State) (a : Addr) (v : Byte) : Res State :=
  match classOf s.platform (busAddr s.platform a) with
  | .io => .refused .ioAccess
  | .none => .fault .noMemory
  | .rom => .refused .storeToRom
  | .ram => .next (s.setMem (memSet s.mem (busAddr s.platform a) v) (addAddress s.stored (busAddr s.platform a)))

/-- `MemWrite(a, 2, v)` (R79). -/
def writeWord (s : State) (a : Addr) (v : Word) : Res State :=
  andThen (writeByte s (evenAddr a) (v.extractLsb' 8 8)) fun s1 =>
  writeByte s1 (evenAddr a + 1#24) (v.extractLsb' 0 8)

/-- `MemWrite(a, 4, v)` (R79). -/
def writeLong (s : State) (a : Addr) (v : Long) : Res State :=
  andThen (writeWord s (evenAddr a) (v.extractLsb' 16 16)) fun s1 =>
  writeWord s1 (evenAddr a + 2#24) (v.extractLsb' 0 16)

/-! ### Moves to memory -/

/-- Store a byte and set N and Z from it, V cleared (spec/40_data_transfer.md R174). -/
def storeByte (s : State) (a : Addr) (v : Byte) : Res State :=
  andThen (writeByte s a v) fun s1 => .next (s1.setCcr (ccrPutNZV0 s1.ccr v))

/-- Store a word and set N and Z from it, V cleared (R178). -/
def storeWord (s : State) (a : Addr) (v : Word) : Res State :=
  andThen (writeWord s a v) fun s1 => .next (s1.setCcr (ccrPutNZV0 s1.ccr v))

/-- Store a longword and set N and Z from it, V cleared (R182). -/
def storeLong (s : State) (a : Addr) (v : Long) : Res State :=
  andThen (writeLong s a v) fun s1 => .next (s1.setCcr (ccrPutNZV0 s1.ccr v))

/-! ### Control transfer -/

/-- Transfer control to an address; an odd one is refused (spec/45_branch.md R360, D20). -/
def jumpTo (s : State) (target : Addr) : Res State :=
  if target.getLsbD 0 then .refused .oddTarget else .next (s.setPc target)

/-- The address that a table entry holds: 4 bytes of which the first is ignored in advanced mode, 2 bytes in normal mode
(R93, R97, D27; log 19). -/
def readEntry (s : State) (a : Addr) : Res Addr :=
  match s.platform.mode with
  | .advanced => andThen (readLong s a) fun w => .next (w.extractLsb' 0 24)
  | .normal => andThen (readWord s a) fun w => .next (w.zeroExtend 24)

/-- The branch address of `@@aa:8` (R93). -/
def memIndTarget (s : State) (a : Byte) : Res Addr := readEntry s (a.zeroExtend 24)

/-- The address of entry `v` of the exception vector table (R97). -/
def vectorAddr (p : Platform) (v : VectorNum) : Addr :=
  match p.mode with
  | .advanced => BitVec.ofNat 24 (4 * v.val)
  | .normal => BitVec.ofNat 24 (2 * v.val)

/-- The handler address of vector `v` (R97, R445). -/
def readVector (s : State) (v : VectorNum) : Res Addr := readEntry s (vectorAddr s.platform v)

/-- Push the return address PC (R360, R379): in advanced mode a longword whose first byte is a free value (D6, log 8), in
normal mode a word. -/
def pushReturn (s : State) : Res State :=
  match s.platform.mode with
  | .advanced =>
    let s1 := dropEr s spNum 4#32
    writeLong (s1.drawn 1) (eaInd s1 spNum) (Config.freeBits 8 s.draws ++ s.pc)
  | .normal =>
    let s1 := dropEr s spNum 2#32
    writeWord s1 (eaInd s1 spNum) (s.pc.extractLsb' 0 16)

/-- Pop a return address into PC (R381). -/
def popReturn (s : State) : Res State :=
  match s.platform.mode with
  | .advanced =>
    andThen (readLong s (eaInd s spNum)) fun w => jumpTo (bumpEr s spNum 4#32) (w.extractLsb' 0 24)
  | .normal =>
    andThen (readWord s (eaInd s spNum)) fun w => jumpTo (bumpEr s spNum 2#32) (w.zeroExtend 24)

/-! ### Exceptions -/

/-- The 4 bytes that exception entry saves (R445): CCR and PC; in normal mode the second byte is a free value (D5). -/
def exceptionFrame (s : State) : Long :=
  match s.platform.mode with
  | .advanced => s.ccr ++ s.pc
  | .normal => s.ccr ++ Config.freeBits 8 s.draws ++ s.pc.extractLsb' 0 16

/-- The state after the frame is formed: in normal mode one free value is drawn. -/
def afterFrame (s : State) : State :=
  match s.platform.mode with
  | .advanced => s
  | .normal => s.drawn 1

/-- Exception entry (R445), common to TRAPA and the hardware interrupts: the sleep ends, CCR and PC are saved at SP - 4,
then I is set, and PC is loaded from the vector. -/
def exceptionEntry (v : VectorNum) (s : State) : Res State :=
  let s1 := dropEr (s.setSleeping false) spNum 4#32
  andThen (writeLong (afterFrame s1) (eaInd s1 spNum) (exceptionFrame s)) fun s2 =>
  let s3 := s2.setCcr (ccrPut s2.ccr .i true)
  andThen (readVector s3 v) fun target => jumpTo s3 target

/-- Return from exception (R390): CCR and PC are popped from a 4-byte frame. -/
def exceptionReturn (s : State) : Res State :=
  andThen (readLong s (eaInd s spNum)) fun w =>
  let target : Addr :=
    match s.platform.mode with
    | .advanced => w.extractLsb' 0 24
    | .normal => (w.extractLsb' 0 16).zeroExtend 24
  jumpTo ((bumpEr s spNum 4#32).setCcr (w.extractLsb' 24 8)) target

/-- The vector number of `TRAPA #k`: 4 + k (R97, R401). -/
def trapVector (k : BitVec 2) : VectorNum :=
  ⟨4 + k.toNat, Nat.lt_of_lt_of_le (Nat.add_lt_add_left k.isLt 4) (by decide)⟩

/-! ### The exception check -/

/-- `acceptable(r)` (R441, R442). -/
def acceptable (s : State) (r : Request) : Bool :=
  r.nmi ||
    if s.platform.uiIsMask then
      match ccrGet s.ccr .i, ccrGet s.ccr .ui with
      | false, false => true
      | true, true => false
      | false, true => s.platform.acceptUiOnly.contains r.vector
      | true, false => s.platform.acceptIOnly.contains r.vector
    else !ccrGet s.ccr .i

/-- `choose` (R446): a non-maskable request if there is one, otherwise the first of the list, whose order is the
oracle's (log 9). -/
def chooseRequest (l : List Request) : Option Request :=
  match l.find? fun r => r.nmi with
  | some r => some r
  | none => l.head?

/-- The request that the exception check accepts, if any (R444). -/
def acceptedRequest (s : State) : Option Request :=
  chooseRequest ((s.irq.headD []).filter fun r => acceptable s r)

/-- The state after the check has looked at what the oracle presents (log 9). -/
def afterCheck (s : State) : State := s.setIrq s.irq.tail

/-- The start sequence of `START = vector` (spec/70_reset_and_hazards.md R481): I is set and PC is loaded from vector
entry 0. -/
def startSequence (s : State) : Res State :=
  let s1 := (s.setStartPending false).setCcr (ccrPut s.ccr .i true)
  andThen (readVector s1 ⟨0, by decide⟩) fun target => jumpTo s1 target

/-- The exception check (R444) with what follows it: an accepted request is entered; otherwise a sleeping CPU stays
asleep and a CPU that is awake goes on with `run`. -/
def checkThen (s : State) (run : State → Res State) : Res State :=
  match acceptedRequest s with
  | some r => exceptionEntry r.vector (afterCheck s)
  | none => if s.sleeping then .next (afterCheck s) else run (afterCheck s)

/-! ### Fetching -/

/-- Fetch one instruction byte; a byte that the program has stored to is refused (R105, D14). -/
def fetchByte (s : State) (a : Addr) : Res Byte :=
  if s.stored.contains (busAddr s.platform a) then .refused .modifiedCode else readByte s a

/-- The instruction bytes that can be fetched from an address on, `n` at most. -/
def codeBytes (s : State) (n : Nat) (a : Addr) : List Byte :=
  match n with
  | 0 => []
  | n + 1 =>
    match fetchByte s a with
    | .next b => b :: codeBytes s n (a + 1#24)
    | _ => []

/-- Fetch and decode the instruction at PC, and its length (R18). Bit 0 of PC is ignored (spec/10_state.md R42). The bytes
past the instruction play no part; where the bytes at hand do not make up an instruction, the stop is that of the
first byte that cannot be fetched (log 27). -/
def fetchInstr (s : State) : Res (Instr × Nat) :=
  let bytes := codeBytes s maxLength (evenAddr s.pc)
  match decode bytes with
  | .ok i n => .next (i, n)
  | .undefined => .refused .undefinedEncoding
  | .short =>
    andThen (fetchByte s (evenAddr s.pc + BitVec.ofNat 24 bytes.length)) fun _ => .refused .undefinedEncoding

/-- PC moved past an instruction of `n` bytes (R18, R41). -/
def advancePc (s : State) (n : Nat) : State := s.setPc (s.pc + BitVec.ofNat 24 n)

/-- Store bytes for the fetch, from an address on: they are loaded, not stored by the program. -/
def loadBytes (s : State) (a : Addr) (bytes : List Byte) : State :=
  match bytes with
  | [] => s
  | b :: rest =>
    loadBytes (s.setMem (memSet s.mem (busAddr s.platform a) b)
      (s.stored.filter fun x => x != busAddr s.platform a)) (a + 1#24) rest

end Sys2Proof.Machine
end

