-- ==== Sys2Proof/Machine/Arithmetic.lean ====
section
/-!
DEFINITION. The meanings of the arithmetic instructions (spec/41_arithmetic.md R210 to R252).
Each has a definition of its own over the shared operations; PC is already the address of the next instruction
(spec/00_scope.md R18).
-/

namespace Sys2Proof.Machine

/-- The product of two unsigned `q`-bit numbers (spec/41_arithmetic.md R228, R229). -/
def mulUnsigned {q : Nat} (a b : BitVec q) : BitVec (q + q) := BitVec.ofNat (q + q) (a.toNat * b.toNat)

/-- The product of two signed `q`-bit numbers, as an integer (R232, R233). -/
def mulSigned {q : Nat} (a b : BitVec q) : Int := a.toInt * b.toInt

/-- A CCR value with N and Z from a signed product (R232; PRESUMED, log 21). -/
def ccrPutSign (ccr : Byte) (p : Int) : Byte := ccrPut (ccrPut ccr .n (decide (p < 0))) .z (decide (p = 0))

/-- Write the signed product of two bytes, and N and Z from it. -/
def productR16 (s : State) (k : RegNum) (a b : Byte) : State :=
  (writeR16 s k (BitVec.ofInt 16 (mulSigned a b))).setCcr (ccrPutSign s.ccr (mulSigned a b))

/-- Write the signed product of two words, and N and Z from it. -/
def productEr (s : State) (n : ErNum) (a b : Word) : State :=
  (writeEr s n (BitVec.ofInt 32 (mulSigned a b))).setCcr (ccrPutSign s.ccr (mulSigned a b))

/-- Write remainder and quotient, or a free value where there are none (R250), and a CCR value. -/
def quotientR16 (s : State) (k : RegNum) (o : Option Word) (ccr : Byte) : State :=
  afterFree ((writeR16 s k (orFree s o)).setCcr ccr) o

/-- Write remainder and quotient, or a free value where there are none (R250), and a CCR value. -/
def quotientEr (s : State) (n : ErNum) (o : Option Long) (ccr : Byte) : State :=
  afterFree ((writeEr s n (orFree s o)).setCcr ccr) o

/-- CCR after a signed division (R234, R235): N is the sign of the quotient or a free value, drawn after the quotient's;
Z tells a zero divisor. -/
def ccrPutDivSigned {q : Nat} (ccr : Byte) (s : State) (n : Option Bool) (d : BitVec q) : Byte :=
  ccrPut (ccrPut ccr .n (orFreeBit s n)) .z (d == 0#q)

/-- DIVXS.B: the dividend is the 16-bit register `k` (R234). -/
def signedQuotientR16 (s : State) (k : RegNum) (d : Byte) : State :=
  let o := divSigned 8 (readR16 s k) d
  let n := divSignedN 8 (readR16 s k) d
  afterFree (quotientR16 s k o (ccrPutDivSigned s.ccr (afterFree s o) n d)) n

/-- DIVXS.W: the dividend is ER[`k`] (R235). -/
def signedQuotientEr (s : State) (k : ErNum) (d : Word) : State :=
  let o := divSigned 16 (readEr s k) d
  let n := divSignedN 16 (readEr s k) d
  afterFree (quotientEr s k o (ccrPutDivSigned s.ccr (afterFree s o) n d)) n

/-- What DAA and DAS write, given the row of their table that fits (R226, R227): the free value's bits 0 to 4 are H, V, N,
Z, C and bits 5 to 12 the byte; all but H and V are used only where no row fits, and C only by DAA. -/
def adjustR8 (s : State) (k : RegNum) (row : Option BcdRow) (writesC : Bool) : State :=
  let f : BitVec 13 := Config.freeBits 13 s.draws
  let old := readR8 s k
  let v : Byte := match row with
    | some r => old + r.added
    | none => f.extractLsb' 5 8
  let nz : Byte := match row with
    | some _ => ccrPutNZ s.ccr v
    | none => ccrPut (ccrPut s.ccr .n (f.getLsbD 2)) .z (f.getLsbD 3)
  let nzc : Byte := if writesC then
      match row with
      | some r => ccrPut nz .c r.cAfter
      | none => ccrPut nz .c (f.getLsbD 4)
    else nz
  ((writeR8 s k v).setCcr (ccrPut (ccrPut nzc .h (f.getLsbD 0)) .v (f.getLsbD 1))).drawn 1

/-- `ADD.B #xx:8,Rd` (R210). -/
def execAddBImm (imm : Byte) (rd : RegNum) (s : State) : Res State :=
  .next (arithR8 s rd (addN (readR8 s rd) imm false))

/-- `ADD.B Rs,Rd` (R210). -/
def execAddBReg (rs : RegNum) (rd : RegNum) (s : State) : Res State :=
  .next (arithR8 s rd (addN (readR8 s rd) (readR8 s rs) false))

/-- `ADD.W #xx:16,Rd` (R211). -/
def execAddWImm (imm : Word) (rd : RegNum) (s : State) : Res State :=
  .next (arithR16 s rd (addN (readR16 s rd) imm false))

/-- `ADD.W Rs,Rd` (R211). -/
def execAddWReg (rs : RegNum) (rd : RegNum) (s : State) : Res State :=
  .next (arithR16 s rd (addN (readR16 s rd) (readR16 s rs) false))

/-- `ADD.L #xx:32,ERd` (R212). -/
def execAddLImm (imm : Long) (erd : ErNum) (s : State) : Res State :=
  .next (arithEr s erd (addN (readEr s erd) imm false))

/-- `ADD.L ERs,ERd` (R212). -/
def execAddLReg (ers : ErNum) (erd : ErNum) (s : State) : Res State :=
  .next (arithEr s erd (addN (readEr s erd) (readEr s ers) false))

/-- `SUB.B Rs,Rd` (R213). -/
def execSubBReg (rs : RegNum) (rd : RegNum) (s : State) : Res State :=
  .next (arithR8 s rd (subN (readR8 s rd) (readR8 s rs) false))

/-- `SUB.W #xx:16,Rd` (R214). -/
def execSubWImm (imm : Word) (rd : RegNum) (s : State) : Res State :=
  .next (arithR16 s rd (subN (readR16 s rd) imm false))

/-- `SUB.W Rs,Rd` (R214). -/
def execSubWReg (rs : RegNum) (rd : RegNum) (s : State) : Res State :=
  .next (arithR16 s rd (subN (readR16 s rd) (readR16 s rs) false))

/-- `SUB.L #xx:32,ERd` (R215). -/
def execSubLImm (imm : Long) (erd : ErNum) (s : State) : Res State :=
  .next (arithEr s erd (subN (readEr s erd) imm false))

/-- `SUB.L ERs,ERd` (R215). -/
def execSubLReg (ers : ErNum) (erd : ErNum) (s : State) : Res State :=
  .next (arithEr s erd (subN (readEr s erd) (readEr s ers) false))

/-- `ADDX.B #xx:8,Rd` (R216). -/
def execAddxBImm (imm : Byte) (rd : RegNum) (s : State) : Res State :=
  .next (arithXR8 s rd (addN (readR8 s rd) imm (ccrGet s.ccr .c)))

/-- `ADDX.B Rs,Rd` (R216). -/
def execAddxBReg (rs : RegNum) (rd : RegNum) (s : State) : Res State :=
  .next (arithXR8 s rd (addN (readR8 s rd) (readR8 s rs) (ccrGet s.ccr .c)))

/-- `SUBX.B #xx:8,Rd` (R217). -/
def execSubxBImm (imm : Byte) (rd : RegNum) (s : State) : Res State :=
  .next (arithXR8 s rd (subN (readR8 s rd) imm (ccrGet s.ccr .c)))

/-- `SUBX.B Rs,Rd` (R217). -/
def execSubxBReg (rs : RegNum) (rd : RegNum) (s : State) : Res State :=
  .next (arithXR8 s rd (subN (readR8 s rd) (readR8 s rs) (ccrGet s.ccr .c)))

/-- `INC.B Rd` (R218). -/
def execIncB (rd : RegNum) (s : State) : Res State := .next (countR8 s rd (addN (readR8 s rd) 1#8 false))

/-- `INC.W #1,Rd` (R219). -/
def execIncW1 (rd : RegNum) (s : State) : Res State := .next (countR16 s rd (addN (readR16 s rd) 1#16 false))

/-- `INC.W #2,Rd` (R219). -/
def execIncW2 (rd : RegNum) (s : State) : Res State := .next (countR16 s rd (addN (readR16 s rd) 2#16 false))

/-- `INC.L #1,ERd` (R220). -/
def execIncL1 (erd : ErNum) (s : State) : Res State := .next (countEr s erd (addN (readEr s erd) 1#32 false))

/-- `INC.L #2,ERd` (R220). -/
def execIncL2 (erd : ErNum) (s : State) : Res State := .next (countEr s erd (addN (readEr s erd) 2#32 false))

/-- `DEC.B Rd` (R221). -/
def execDecB (rd : RegNum) (s : State) : Res State := .next (countR8 s rd (subN (readR8 s rd) 1#8 false))

/-- `DEC.W #1,Rd` (R222). -/
def execDecW1 (rd : RegNum) (s : State) : Res State := .next (countR16 s rd (subN (readR16 s rd) 1#16 false))

/-- `DEC.W #2,Rd` (R222). -/
def execDecW2 (rd : RegNum) (s : State) : Res State := .next (countR16 s rd (subN (readR16 s rd) 2#16 false))

/-- `DEC.L #1,ERd` (R223). -/
def execDecL1 (erd : ErNum) (s : State) : Res State := .next (countEr s erd (subN (readEr s erd) 1#32 false))

/-- `DEC.L #2,ERd` (R223). -/
def execDecL2 (erd : ErNum) (s : State) : Res State := .next (countEr s erd (subN (readEr s erd) 2#32 false))

/-- `ADDS #1,ERd` (R224). -/
def execAdds1 (erd : ErNum) (s : State) : Res State := .next (writeEr s erd (readEr s erd + 1#32))

/-- `ADDS #2,ERd` (R224). -/
def execAdds2 (erd : ErNum) (s : State) : Res State := .next (writeEr s erd (readEr s erd + 2#32))

/-- `ADDS #4,ERd` (R224). -/
def execAdds4 (erd : ErNum) (s : State) : Res State := .next (writeEr s erd (readEr s erd + 4#32))

/-- `SUBS #1,ERd` (R225). -/
def execSubs1 (erd : ErNum) (s : State) : Res State := .next (writeEr s erd (readEr s erd - 1#32))

/-- `SUBS #2,ERd` (R225). -/
def execSubs2 (erd : ErNum) (s : State) : Res State := .next (writeEr s erd (readEr s erd - 2#32))

/-- `SUBS #4,ERd` (R225). -/
def execSubs4 (erd : ErNum) (s : State) : Res State := .next (writeEr s erd (readEr s erd - 4#32))

/-- `DAA Rd` (R226). H and V, and outside the table the result, N, Z and C, are free values (U1, U4; log 8). The table
is PRESUMED (log 20). -/
def execDaa (rd : RegNum) (s : State) : Res State :=
  .next (adjustR8 s rd (bcdLookup daaTable (ccrGet s.ccr .c) (ccrGet s.ccr .h) (readR8 s rd)) true)

/-- `DAS Rd` (R227). H and V, and outside the table the result, N and Z, are free values (U1, U4; log 8). The table is
PRESUMED (log 20). -/
def execDas (rd : RegNum) (s : State) : Res State :=
  .next (adjustR8 s rd (bcdLookup dasTable (ccrGet s.ccr .c) (ccrGet s.ccr .h) (readR8 s rd)) false)

/-- `MULXU.B Rs,Rd` (R228). -/
def execMulxuB (rs : RegNum) (rd : RegNum) (s : State) : Res State :=
  .next (writeR16 s rd (mulUnsigned ((readR16 s rd).extractLsb' 0 8) (readR8 s rs)))

/-- `MULXU.W Rs,ERd` (R229). -/
def execMulxuW (rs : RegNum) (erd : ErNum) (s : State) : Res State :=
  .next (writeEr s erd (mulUnsigned ((readEr s erd).extractLsb' 0 16) (readR16 s rs)))

/-- `DIVXU.B Rs,Rd` (R230). N and Z come from the divisor (PRESUMED, G4; logs 21, 35). -/
def execDivxuB (rs : RegNum) (rd : RegNum) (s : State) : Res State :=
  .next (quotientR16 s rd (divUnsigned 8 (readR16 s rd) (readR8 s rs)) (ccrPutNZ s.ccr (readR8 s rs)))

/-- `DIVXU.W Rs,ERd` (R231). N and Z come from the divisor (PRESUMED, G4; log 21). -/
def execDivxuW (rs : RegNum) (erd : ErNum) (s : State) : Res State :=
  .next (quotientEr s erd (divUnsigned 16 (readEr s erd) (readR16 s rs)) (ccrPutNZ s.ccr (readR16 s rs)))

/-- `MULXS.B Rs,Rd` (R232). N and Z are PRESUMED (G4; log 21). -/
def execMulxsB (rs : RegNum) (rd : RegNum) (s : State) : Res State :=
  .next (productR16 s rd ((readR16 s rd).extractLsb' 0 8) (readR8 s rs))

/-- `MULXS.W Rs,ERd` (R233). N and Z are PRESUMED (G4; log 21). -/
def execMulxsW (rs : RegNum) (erd : ErNum) (s : State) : Res State :=
  .next (productEr s erd ((readEr s erd).extractLsb' 0 16) (readR16 s rs))

/-- `DIVXS.B Rs,Rd` (R234). N is a free value in the cases of U21 (log 8); N, Z and the rounding are PRESUMED (G4, G5;
log 21). -/
def execDivxsB (rs : RegNum) (rd : RegNum) (s : State) : Res State := .next (signedQuotientR16 s rd (readR8 s rs))

/-- `DIVXS.W Rs,ERd` (R235). N is a free value in the cases of U21 (log 8); N, Z and the rounding are PRESUMED (G4,
G5; log 21). -/
def execDivxsW (rs : RegNum) (erd : ErNum) (s : State) : Res State := .next (signedQuotientEr s erd (readR16 s rs))

/-- `CMP.B #xx:8,Rd` (R236). -/
def execCmpBImm (imm : Byte) (rd : RegNum) (s : State) : Res State :=
  .next (compareFlags s (subN (readR8 s rd) imm false))

/-- `CMP.B Rs,Rd` (R236). -/
def execCmpBReg (rs : RegNum) (rd : RegNum) (s : State) : Res State :=
  .next (compareFlags s (subN (readR8 s rd) (readR8 s rs) false))

/-- `CMP.W #xx:16,Rd` (R237). -/
def execCmpWImm (imm : Word) (rd : RegNum) (s : State) : Res State :=
  .next (compareFlags s (subN (readR16 s rd) imm false))

/-- `CMP.W Rs,Rd` (R237). -/
def execCmpWReg (rs : RegNum) (rd : RegNum) (s : State) : Res State :=
  .next (compareFlags s (subN (readR16 s rd) (readR16 s rs) false))

/-- `CMP.L #xx:32,ERd` (R238). -/
def execCmpLImm (imm : Long) (erd : ErNum) (s : State) : Res State :=
  .next (compareFlags s (subN (readEr s erd) imm false))

/-- `CMP.L ERs,ERd` (R238). -/
def execCmpLReg (ers : ErNum) (erd : ErNum) (s : State) : Res State :=
  .next (compareFlags s (subN (readEr s erd) (readEr s ers) false))

/-- `NEG.B Rd` (R239). -/
def execNegB (rd : RegNum) (s : State) : Res State := .next (arithR8 s rd (subN 0#8 (readR8 s rd) false))

/-- `NEG.W Rd` (R240). -/
def execNegW (rd : RegNum) (s : State) : Res State := .next (arithR16 s rd (subN 0#16 (readR16 s rd) false))

/-- `NEG.L ERd` (R241). -/
def execNegL (erd : ErNum) (s : State) : Res State := .next (arithEr s erd (subN 0#32 (readEr s erd) false))

/-- `EXTU.W Rd` (R242). -/
def execExtuW (rd : RegNum) (s : State) : Res State :=
  .next (resultR16 s rd (((readR16 s rd).extractLsb' 0 8).zeroExtend 16))

/-- `EXTU.L ERd` (R243). -/
def execExtuL (erd : ErNum) (s : State) : Res State :=
  .next (resultEr s erd (((readEr s erd).extractLsb' 0 16).zeroExtend 32))

/-- `EXTS.W Rd` (R244). -/
def execExtsW (rd : RegNum) (s : State) : Res State :=
  .next (resultR16 s rd (((readR16 s rd).extractLsb' 0 8).signExtend 16))

/-- `EXTS.L ERd` (R245). -/
def execExtsL (erd : ErNum) (s : State) : Res State :=
  .next (resultEr s erd (((readEr s erd).extractLsb' 0 16).signExtend 32))

end Sys2Proof.Machine
end

