-- ==== Sys2Proof/Machine/BitManip.lean ====
section
/-!
DEFINITION. The meanings of the bit manipulation instructions (spec/44_bit_manipulation.md R320 to R336).
Each has a definition of its own over the shared operations; PC is already the address of the next instruction
(spec/00_scope.md R18).
-/

namespace Sys2Proof.Machine

/-- The read-modify-write of one bit of a byte of memory: the whole byte is read, the bit replaced by `f` of it, and the
whole byte written back (spec/44_bit_manipulation.md R320, PRESUMED: the spec's reading from general knowledge, G16,
log 39). -/
def changeBit (s : State) (a : Addr) (n : BitVec 3) (f : Bool → Bool) : Res State :=
  andThen (readByte s a) fun b => writeByte s a (withBit b n (f (bitOf b n)))

/-- `BSET #xx:3,Rd` (R321). -/
def execBsetImmReg (bit : BitVec 3) (rd : RegNum) (s : State) : Res State :=
  .next (writeR8 s rd (withBit (readR8 s rd) bit true))

/-- `BSET #xx:3,@ERd` (R321). -/
def execBsetImmInd (bit : BitVec 3) (erd : ErNum) (s : State) : Res State :=
  changeBit s (eaInd s erd) bit (fun _ => true)

/-- `BSET #xx:3,@aa:8` (R321). -/
def execBsetImmAbs8 (bit : BitVec 3) (abs : Byte) (s : State) : Res State :=
  changeBit s (eaAbs8 abs) bit (fun _ => true)

/-- `BSET Rn,Rd` (R321). -/
def execBsetRnReg (rn : RegNum) (rd : RegNum) (s : State) : Res State :=
  .next (writeR8 s rd (withBit (readR8 s rd) (bitNumberIn s rn) true))

/-- `BSET Rn,@ERd` (R321). -/
def execBsetRnInd (rn : RegNum) (erd : ErNum) (s : State) : Res State :=
  changeBit s (eaInd s erd) (bitNumberIn s rn) (fun _ => true)

/-- `BSET Rn,@aa:8` (R321). -/
def execBsetRnAbs8 (rn : RegNum) (abs : Byte) (s : State) : Res State :=
  changeBit s (eaAbs8 abs) (bitNumberIn s rn) (fun _ => true)

/-- `BCLR #xx:3,Rd` (R322). -/
def execBclrImmReg (bit : BitVec 3) (rd : RegNum) (s : State) : Res State :=
  .next (writeR8 s rd (withBit (readR8 s rd) bit false))

/-- `BCLR #xx:3,@ERd` (R322). -/
def execBclrImmInd (bit : BitVec 3) (erd : ErNum) (s : State) : Res State :=
  changeBit s (eaInd s erd) bit (fun _ => false)

/-- `BCLR #xx:3,@aa:8` (R322). -/
def execBclrImmAbs8 (bit : BitVec 3) (abs : Byte) (s : State) : Res State :=
  changeBit s (eaAbs8 abs) bit (fun _ => false)

/-- `BCLR Rn,Rd` (R322). -/
def execBclrRnReg (rn : RegNum) (rd : RegNum) (s : State) : Res State :=
  .next (writeR8 s rd (withBit (readR8 s rd) (bitNumberIn s rn) false))

/-- `BCLR Rn,@ERd` (R322). -/
def execBclrRnInd (rn : RegNum) (erd : ErNum) (s : State) : Res State :=
  changeBit s (eaInd s erd) (bitNumberIn s rn) (fun _ => false)

/-- `BCLR Rn,@aa:8` (R322). -/
def execBclrRnAbs8 (rn : RegNum) (abs : Byte) (s : State) : Res State :=
  changeBit s (eaAbs8 abs) (bitNumberIn s rn) (fun _ => false)

/-- `BNOT #xx:3,Rd` (R323). -/
def execBnotImmReg (bit : BitVec 3) (rd : RegNum) (s : State) : Res State :=
  .next (writeR8 s rd (withBit (readR8 s rd) bit (!bitOf (readR8 s rd) bit)))

/-- `BNOT #xx:3,@ERd` (R323). -/
def execBnotImmInd (bit : BitVec 3) (erd : ErNum) (s : State) : Res State := changeBit s (eaInd s erd) bit (fun b => !b)

/-- `BNOT #xx:3,@aa:8` (R323). -/
def execBnotImmAbs8 (bit : BitVec 3) (abs : Byte) (s : State) : Res State := changeBit s (eaAbs8 abs) bit (fun b => !b)

/-- `BNOT Rn,Rd` (R323). -/
def execBnotRnReg (rn : RegNum) (rd : RegNum) (s : State) : Res State :=
  .next (writeR8 s rd (withBit (readR8 s rd) (bitNumberIn s rn) (!bitOf (readR8 s rd) (bitNumberIn s rn))))

/-- `BNOT Rn,@ERd` (R323). -/
def execBnotRnInd (rn : RegNum) (erd : ErNum) (s : State) : Res State :=
  changeBit s (eaInd s erd) (bitNumberIn s rn) (fun b => !b)

/-- `BNOT Rn,@aa:8` (R323). -/
def execBnotRnAbs8 (rn : RegNum) (abs : Byte) (s : State) : Res State :=
  changeBit s (eaAbs8 abs) (bitNumberIn s rn) (fun b => !b)

/-- `BTST #xx:3,Rd` (R324). -/
def execBtstImmReg (bit : BitVec 3) (rd : RegNum) (s : State) : Res State := .next (putZ s (!bitOf (readR8 s rd) bit))

/-- `BTST #xx:3,@ERd` (R324). -/
def execBtstImmInd (bit : BitVec 3) (erd : ErNum) (s : State) : Res State :=
  andThen (readByte s (eaInd s erd)) fun b => .next (putZ s (!bitOf b bit))

/-- `BTST #xx:3,@aa:8` (R324). -/
def execBtstImmAbs8 (bit : BitVec 3) (abs : Byte) (s : State) : Res State :=
  andThen (readByte s (eaAbs8 abs)) fun b => .next (putZ s (!bitOf b bit))

/-- `BTST Rn,Rd` (R324). -/
def execBtstRnReg (rn : RegNum) (rd : RegNum) (s : State) : Res State :=
  .next (putZ s (!bitOf (readR8 s rd) (bitNumberIn s rn)))

/-- `BTST Rn,@ERd` (R324). -/
def execBtstRnInd (rn : RegNum) (erd : ErNum) (s : State) : Res State :=
  andThen (readByte s (eaInd s erd)) fun b => .next (putZ s (!bitOf b (bitNumberIn s rn)))

/-- `BTST Rn,@aa:8` (R324). -/
def execBtstRnAbs8 (rn : RegNum) (abs : Byte) (s : State) : Res State :=
  andThen (readByte s (eaAbs8 abs)) fun b => .next (putZ s (!bitOf b (bitNumberIn s rn)))

/-- `BAND #xx:3,Rd` (R325). -/
def execBandReg (bit : BitVec 3) (rd : RegNum) (s : State) : Res State :=
  .next (putC s (ccrGet s.ccr .c && bitOf (readR8 s rd) bit))

/-- `BAND #xx:3,@ERd` (R325). -/
def execBandInd (bit : BitVec 3) (erd : ErNum) (s : State) : Res State :=
  andThen (readByte s (eaInd s erd)) fun b => .next (putC s (ccrGet s.ccr .c && bitOf b bit))

/-- `BAND #xx:3,@aa:8` (R325). -/
def execBandAbs8 (bit : BitVec 3) (abs : Byte) (s : State) : Res State :=
  andThen (readByte s (eaAbs8 abs)) fun b => .next (putC s (ccrGet s.ccr .c && bitOf b bit))

/-- `BIAND #xx:3,Rd` (R326). -/
def execBiandReg (bit : BitVec 3) (rd : RegNum) (s : State) : Res State :=
  .next (putC s (ccrGet s.ccr .c && !bitOf (readR8 s rd) bit))

/-- `BIAND #xx:3,@ERd` (R326). -/
def execBiandInd (bit : BitVec 3) (erd : ErNum) (s : State) : Res State :=
  andThen (readByte s (eaInd s erd)) fun b => .next (putC s (ccrGet s.ccr .c && !bitOf b bit))

/-- `BIAND #xx:3,@aa:8` (R326). -/
def execBiandAbs8 (bit : BitVec 3) (abs : Byte) (s : State) : Res State :=
  andThen (readByte s (eaAbs8 abs)) fun b => .next (putC s (ccrGet s.ccr .c && !bitOf b bit))

/-- `BOR #xx:3,Rd` (R327). -/
def execBorReg (bit : BitVec 3) (rd : RegNum) (s : State) : Res State :=
  .next (putC s (ccrGet s.ccr .c || bitOf (readR8 s rd) bit))

/-- `BOR #xx:3,@ERd` (R327). -/
def execBorInd (bit : BitVec 3) (erd : ErNum) (s : State) : Res State :=
  andThen (readByte s (eaInd s erd)) fun b => .next (putC s (ccrGet s.ccr .c || bitOf b bit))

/-- `BOR #xx:3,@aa:8` (R327). -/
def execBorAbs8 (bit : BitVec 3) (abs : Byte) (s : State) : Res State :=
  andThen (readByte s (eaAbs8 abs)) fun b => .next (putC s (ccrGet s.ccr .c || bitOf b bit))

/-- `BIOR #xx:3,Rd` (R328). -/
def execBiorReg (bit : BitVec 3) (rd : RegNum) (s : State) : Res State :=
  .next (putC s (ccrGet s.ccr .c || !bitOf (readR8 s rd) bit))

/-- `BIOR #xx:3,@ERd` (R328). -/
def execBiorInd (bit : BitVec 3) (erd : ErNum) (s : State) : Res State :=
  andThen (readByte s (eaInd s erd)) fun b => .next (putC s (ccrGet s.ccr .c || !bitOf b bit))

/-- `BIOR #xx:3,@aa:8` (R328). -/
def execBiorAbs8 (bit : BitVec 3) (abs : Byte) (s : State) : Res State :=
  andThen (readByte s (eaAbs8 abs)) fun b => .next (putC s (ccrGet s.ccr .c || !bitOf b bit))

/-- `BXOR #xx:3,Rd` (R329). -/
def execBxorReg (bit : BitVec 3) (rd : RegNum) (s : State) : Res State :=
  .next (putC s (ccrGet s.ccr .c ^^ bitOf (readR8 s rd) bit))

/-- `BXOR #xx:3,@ERd` (R329). -/
def execBxorInd (bit : BitVec 3) (erd : ErNum) (s : State) : Res State :=
  andThen (readByte s (eaInd s erd)) fun b => .next (putC s (ccrGet s.ccr .c ^^ bitOf b bit))

/-- `BXOR #xx:3,@aa:8` (R329). -/
def execBxorAbs8 (bit : BitVec 3) (abs : Byte) (s : State) : Res State :=
  andThen (readByte s (eaAbs8 abs)) fun b => .next (putC s (ccrGet s.ccr .c ^^ bitOf b bit))

/-- `BIXOR #xx:3,Rd` (R330). -/
def execBixorReg (bit : BitVec 3) (rd : RegNum) (s : State) : Res State :=
  .next (putC s (ccrGet s.ccr .c ^^ !bitOf (readR8 s rd) bit))

/-- `BIXOR #xx:3,@ERd` (R330). -/
def execBixorInd (bit : BitVec 3) (erd : ErNum) (s : State) : Res State :=
  andThen (readByte s (eaInd s erd)) fun b => .next (putC s (ccrGet s.ccr .c ^^ !bitOf b bit))

/-- `BIXOR #xx:3,@aa:8` (R330). -/
def execBixorAbs8 (bit : BitVec 3) (abs : Byte) (s : State) : Res State :=
  andThen (readByte s (eaAbs8 abs)) fun b => .next (putC s (ccrGet s.ccr .c ^^ !bitOf b bit))

/-- `BLD #xx:3,Rd` (R331). -/
def execBldReg (bit : BitVec 3) (rd : RegNum) (s : State) : Res State := .next (putC s (bitOf (readR8 s rd) bit))

/-- `BLD #xx:3,@ERd` (R331). -/
def execBldInd (bit : BitVec 3) (erd : ErNum) (s : State) : Res State :=
  andThen (readByte s (eaInd s erd)) fun b => .next (putC s (bitOf b bit))

/-- `BLD #xx:3,@aa:8` (R331). -/
def execBldAbs8 (bit : BitVec 3) (abs : Byte) (s : State) : Res State :=
  andThen (readByte s (eaAbs8 abs)) fun b => .next (putC s (bitOf b bit))

/-- `BILD #xx:3,Rd` (R332). -/
def execBildReg (bit : BitVec 3) (rd : RegNum) (s : State) : Res State := .next (putC s (!bitOf (readR8 s rd) bit))

/-- `BILD #xx:3,@ERd` (R332). -/
def execBildInd (bit : BitVec 3) (erd : ErNum) (s : State) : Res State :=
  andThen (readByte s (eaInd s erd)) fun b => .next (putC s (!bitOf b bit))

/-- `BILD #xx:3,@aa:8` (R332). -/
def execBildAbs8 (bit : BitVec 3) (abs : Byte) (s : State) : Res State :=
  andThen (readByte s (eaAbs8 abs)) fun b => .next (putC s (!bitOf b bit))

/-- `BST #xx:3,Rd` (R333). -/
def execBstReg (bit : BitVec 3) (rd : RegNum) (s : State) : Res State :=
  .next (writeR8 s rd (withBit (readR8 s rd) bit (ccrGet s.ccr .c)))

/-- `BST #xx:3,@ERd` (R333). -/
def execBstInd (bit : BitVec 3) (erd : ErNum) (s : State) : Res State :=
  changeBit s (eaInd s erd) bit (fun _ => ccrGet s.ccr .c)

/-- `BST #xx:3,@aa:8` (R333). -/
def execBstAbs8 (bit : BitVec 3) (abs : Byte) (s : State) : Res State :=
  changeBit s (eaAbs8 abs) bit (fun _ => ccrGet s.ccr .c)

/-- `BIST #xx:3,Rd` (R334). -/
def execBistReg (bit : BitVec 3) (rd : RegNum) (s : State) : Res State :=
  .next (writeR8 s rd (withBit (readR8 s rd) bit (!ccrGet s.ccr .c)))

/-- `BIST #xx:3,@ERd` (R334). -/
def execBistInd (bit : BitVec 3) (erd : ErNum) (s : State) : Res State :=
  changeBit s (eaInd s erd) bit (fun _ => !ccrGet s.ccr .c)

/-- `BIST #xx:3,@aa:8` (R334). -/
def execBistAbs8 (bit : BitVec 3) (abs : Byte) (s : State) : Res State :=
  changeBit s (eaAbs8 abs) bit (fun _ => !ccrGet s.ccr .c)

end Sys2Proof.Machine
end

