-- ==== Sys2Proof/Machine/BlockTransfer.lean ====
section
/-!
DEFINITION. The meanings of the block transfer instructions (spec/47_block_transfer.md R420 to R423).
Each has a definition of its own over the shared operations; PC is already the address of the next instruction
(spec/00_scope.md R18).
-/

namespace Sys2Proof.Machine

/-- The loop of EEPMOV (spec/47_block_transfer.md R422): `n` bytes still to move; `put` writes what is left into the count
part of ER4. One byte at a time, addresses rising; the whole block is one step. PRESUMED by the spec (G6), log 23. -/
def moveBlock (s : State) (n : Nat) (put : Long → Nat → Long) : Res State :=
  match n with
  | 0 => .next s
  | n + 1 =>
    andThen (readByte s (eaInd s 5#3)) fun b =>
    andThen (writeByte s (eaInd s 6#3) b) fun s1 =>
    let s2 := bumpEr (bumpEr s1 5#3 1#32) 6#3 1#32
    moveBlock (writeEr s2 4#3 (put (readEr s2 4#3) n)) n put

/-- `EEPMOV.B` (R420). The count is R4L; the other bits of ER4 are kept. -/
def execEepmovB (s : State) : Res State :=
  moveBlock s ((readEr s 4#3).extractLsb' 0 8).toNat fun x n => x.extractLsb' 8 24 ++ BitVec.ofNat 8 n

/-- `EEPMOV.W` (R421). The count is R4; E4 is kept. -/
def execEepmovW (s : State) : Res State :=
  moveBlock s ((readEr s 4#3).extractLsb' 0 16).toNat fun x n => x.extractLsb' 16 16 ++ BitVec.ofNat 16 n

end Sys2Proof.Machine
end

