-- ==== Sys2Proof/Machine/Branch.lean ====
section
/-!
DEFINITION. The meanings of the branch instructions (spec/45_branch.md R360 to R382).
Each has a definition of its own over the shared operations; PC is already the address of the next instruction
(spec/00_scope.md R18).
-/

namespace Sys2Proof.Machine

/-- The displacement of Bcc and BSR, sign-extended to 24 bits (spec/30_encoding.md R141). -/
def displacement (d : BranchDisp) : BitVec 24 :=
  match d with
  | .d8 v => v.signExtend 24
  | .d16 v => v.signExtend 24

/-- Bcc (spec/45_branch.md R361): where the condition holds, PC-relative transfer; otherwise the next instruction. -/
def branchIf (s : State) (k : Cond) (d : BranchDisp) : Res State :=
  if k.holds s.ccr then jumpTo s (s.pc + displacement d) else .next s

/-- `BRA d:8`, `BRA d:16` (R362). -/
def execBra (disp : BranchDisp) (s : State) : Res State := branchIf s .bra disp

/-- `BRN d:8`, `BRN d:16` (R363). -/
def execBrn (disp : BranchDisp) (s : State) : Res State := branchIf s .brn disp

/-- `BHI d:8`, `BHI d:16` (R364). -/
def execBhi (disp : BranchDisp) (s : State) : Res State := branchIf s .bhi disp

/-- `BLS d:8`, `BLS d:16` (R365). -/
def execBls (disp : BranchDisp) (s : State) : Res State := branchIf s .bls disp

/-- `BCC d:8`, `BCC d:16` (R366). -/
def execBcc (disp : BranchDisp) (s : State) : Res State := branchIf s .bcc disp

/-- `BCS d:8`, `BCS d:16` (R367). -/
def execBcs (disp : BranchDisp) (s : State) : Res State := branchIf s .bcs disp

/-- `BNE d:8`, `BNE d:16` (R368). -/
def execBne (disp : BranchDisp) (s : State) : Res State := branchIf s .bne disp

/-- `BEQ d:8`, `BEQ d:16` (R369). -/
def execBeq (disp : BranchDisp) (s : State) : Res State := branchIf s .beq disp

/-- `BVC d:8`, `BVC d:16` (R370). -/
def execBvc (disp : BranchDisp) (s : State) : Res State := branchIf s .bvc disp

/-- `BVS d:8`, `BVS d:16` (R371). -/
def execBvs (disp : BranchDisp) (s : State) : Res State := branchIf s .bvs disp

/-- `BPL d:8`, `BPL d:16` (R372). -/
def execBpl (disp : BranchDisp) (s : State) : Res State := branchIf s .bpl disp

/-- `BMI d:8`, `BMI d:16` (R373). -/
def execBmi (disp : BranchDisp) (s : State) : Res State := branchIf s .bmi disp

/-- `BGE d:8`, `BGE d:16` (R374). -/
def execBge (disp : BranchDisp) (s : State) : Res State := branchIf s .bge disp

/-- `BLT d:8`, `BLT d:16` (R375). -/
def execBlt (disp : BranchDisp) (s : State) : Res State := branchIf s .blt disp

/-- `BGT d:8`, `BGT d:16` (R376). -/
def execBgt (disp : BranchDisp) (s : State) : Res State := branchIf s .bgt disp

/-- `BLE d:8`, `BLE d:16` (R377). -/
def execBle (disp : BranchDisp) (s : State) : Res State := branchIf s .ble disp

/-- `JMP @ERn` (R378). -/
def execJmpInd (ern : ErNum) (s : State) : Res State := jumpTo s (eaInd s ern)

/-- `JMP @aa:24` (R378). -/
def execJmpAbs24 (abs : BitVec 24) (s : State) : Res State := jumpTo s abs

/-- `JMP @@aa:8` (R378). -/
def execJmpMemInd (abs : Byte) (s : State) : Res State := andThen (memIndTarget s abs) fun target => jumpTo s target

/-- `BSR d:8`, `BSR d:16` (R379). -/
def execBsr (disp : BranchDisp) (s : State) : Res State :=
  andThen (pushReturn s) fun s1 => jumpTo s1 (s.pc + displacement disp)

/-- `JSR @ERn` (R380). `JSR @ER7` is refused (D17; log 15). -/
def execJsrInd (ern : ErNum) (s : State) : Res State :=
  if ern == spNum then .refused .registerOverlap
  else andThen (pushReturn s) fun s1 => jumpTo s1 (eaInd s ern)

/-- `JSR @aa:24` (R380). -/
def execJsrAbs24 (abs : BitVec 24) (s : State) : Res State := andThen (pushReturn s) fun s1 => jumpTo s1 abs

/-- `JSR @@aa:8` (R380). The entry is read before the stack is written (log 36). -/
def execJsrMemInd (abs : Byte) (s : State) : Res State :=
  andThen (memIndTarget s abs) fun target =>
  andThen (pushReturn s) fun s1 => jumpTo s1 target

/-- `RTS` (R381). -/
def execRts (s : State) : Res State := popReturn s

end Sys2Proof.Machine
end

