-- ==== Sys2Proof/Machine/DataTransfer.lean ====
section
/-!
DEFINITION. The meanings of the data transfer instructions (spec/40_data_transfer.md R170 to R188): MOV, PUSH, POP.
Each has a definition of its own over the shared operations; PC is already the address of the next instruction
(spec/00_scope.md R18).
-/

namespace Sys2Proof.Machine

/-- `MOV.B #xx:8,Rd` (R171). -/
def execMovBImm (imm : Byte) (rd : RegNum) (s : State) : Res State := .next (resultR8 s rd imm)

/-- `MOV.B Rs,Rd` (R172). -/
def execMovBReg (rs : RegNum) (rd : RegNum) (s : State) : Res State := .next (resultR8 s rd (readR8 s rs))

/-- `MOV.B @ERs,Rd` (R173). -/
def execMovBLdInd (ers : ErNum) (rd : RegNum) (s : State) : Res State :=
  andThen (readByte s (eaInd s ers)) fun v => .next (resultR8 s rd v)

/-- `MOV.B @(d:16,ERs),Rd` (R173). -/
def execMovBLdDisp16 (disp : Word) (ers : ErNum) (rd : RegNum) (s : State) : Res State :=
  andThen (readByte s (eaDisp16 s disp ers)) fun v => .next (resultR8 s rd v)

/-- `MOV.B @(d:24,ERs),Rd` (R173). -/
def execMovBLdDisp24 (disp : BitVec 24) (ers : ErNum) (rd : RegNum) (s : State) : Res State :=
  andThen (readByte s (eaDisp24 s disp ers)) fun v => .next (resultR8 s rd v)

/-- `MOV.B @ERs+,Rd` (R173). An overlapping data register is refused (R187; log 15). -/
def execMovBLdInc (ers : ErNum) (rd : RegNum) (s : State) : Res State :=
  if partOf rd ers then .refused .registerOverlap
  else andThen (readByte s (eaInd s ers)) fun v => .next (resultR8 (bumpEr s ers 1#32) rd v)

/-- `MOV.B @aa:8,Rd` (R173). -/
def execMovBLdAbs8 (abs : Byte) (rd : RegNum) (s : State) : Res State :=
  andThen (readByte s (eaAbs8 abs)) fun v => .next (resultR8 s rd v)

/-- `MOV.B @aa:16,Rd` (R173). -/
def execMovBLdAbs16 (abs : Word) (rd : RegNum) (s : State) : Res State :=
  andThen (readByte s (eaAbs16 abs)) fun v => .next (resultR8 s rd v)

/-- `MOV.B @aa:24,Rd` (R173). -/
def execMovBLdAbs24 (abs : BitVec 24) (rd : RegNum) (s : State) : Res State :=
  andThen (readByte s (eaAbs24 abs)) fun v => .next (resultR8 s rd v)

/-- `MOV.B Rs,@ERd` (R174). -/
def execMovBStInd (rs : RegNum) (erd : ErNum) (s : State) : Res State := storeByte s (eaInd s erd) (readR8 s rs)

/-- `MOV.B Rs,@(d:16,ERd)` (R174). -/
def execMovBStDisp16 (rs : RegNum) (disp : Word) (erd : ErNum) (s : State) : Res State :=
  storeByte s (eaDisp16 s disp erd) (readR8 s rs)

/-- `MOV.B Rs,@(d:24,ERd)` (R174). -/
def execMovBStDisp24 (rs : RegNum) (disp : BitVec 24) (erd : ErNum) (s : State) : Res State :=
  storeByte s (eaDisp24 s disp erd) (readR8 s rs)

/-- `MOV.B Rs,@-ERd` (R174). An overlapping data register is refused (R187; log 15). -/
def execMovBStDec (rs : RegNum) (erd : ErNum) (s : State) : Res State :=
  if partOf rs erd then .refused .registerOverlap
  else storeByte (dropEr s erd 1#32) (eaInd (dropEr s erd 1#32) erd) (readR8 s rs)

/-- `MOV.B Rs,@aa:8` (R174). -/
def execMovBStAbs8 (rs : RegNum) (abs : Byte) (s : State) : Res State := storeByte s (eaAbs8 abs) (readR8 s rs)

/-- `MOV.B Rs,@aa:16` (R174). -/
def execMovBStAbs16 (rs : RegNum) (abs : Word) (s : State) : Res State := storeByte s (eaAbs16 abs) (readR8 s rs)

/-- `MOV.B Rs,@aa:24` (R174). -/
def execMovBStAbs24 (rs : RegNum) (abs : BitVec 24) (s : State) : Res State := storeByte s (eaAbs24 abs) (readR8 s rs)

/-- `MOV.W #xx:16,Rd` (R175). -/
def execMovWImm (imm : Word) (rd : RegNum) (s : State) : Res State := .next (resultR16 s rd imm)

/-- `MOV.W Rs,Rd` (R176). -/
def execMovWReg (rs : RegNum) (rd : RegNum) (s : State) : Res State := .next (resultR16 s rd (readR16 s rs))

/-- `MOV.W @ERs,Rd` (R177). -/
def execMovWLdInd (ers : ErNum) (rd : RegNum) (s : State) : Res State :=
  andThen (readWord s (eaInd s ers)) fun v => .next (resultR16 s rd v)

/-- `MOV.W @(d:16,ERs),Rd` (R177). -/
def execMovWLdDisp16 (disp : Word) (ers : ErNum) (rd : RegNum) (s : State) : Res State :=
  andThen (readWord s (eaDisp16 s disp ers)) fun v => .next (resultR16 s rd v)

/-- `MOV.W @(d:24,ERs),Rd` (R177). -/
def execMovWLdDisp24 (disp : BitVec 24) (ers : ErNum) (rd : RegNum) (s : State) : Res State :=
  andThen (readWord s (eaDisp24 s disp ers)) fun v => .next (resultR16 s rd v)

/-- `MOV.W @ERs+,Rd` (R177). An overlapping data register is refused (R187; log 15). -/
def execMovWLdInc (ers : ErNum) (rd : RegNum) (s : State) : Res State :=
  if partOf rd ers then .refused .registerOverlap
  else andThen (readWord s (eaInd s ers)) fun v => .next (resultR16 (bumpEr s ers 2#32) rd v)

/-- `MOV.W @aa:16,Rd` (R177). -/
def execMovWLdAbs16 (abs : Word) (rd : RegNum) (s : State) : Res State :=
  andThen (readWord s (eaAbs16 abs)) fun v => .next (resultR16 s rd v)

/-- `MOV.W @aa:24,Rd` (R177). -/
def execMovWLdAbs24 (abs : BitVec 24) (rd : RegNum) (s : State) : Res State :=
  andThen (readWord s (eaAbs24 abs)) fun v => .next (resultR16 s rd v)

/-- `MOV.W Rs,@ERd` (R178). -/
def execMovWStInd (rs : RegNum) (erd : ErNum) (s : State) : Res State := storeWord s (eaInd s erd) (readR16 s rs)

/-- `MOV.W Rs,@(d:16,ERd)` (R178). -/
def execMovWStDisp16 (rs : RegNum) (disp : Word) (erd : ErNum) (s : State) : Res State :=
  storeWord s (eaDisp16 s disp erd) (readR16 s rs)

/-- `MOV.W Rs,@(d:24,ERd)` (R178). -/
def execMovWStDisp24 (rs : RegNum) (disp : BitVec 24) (erd : ErNum) (s : State) : Res State :=
  storeWord s (eaDisp24 s disp erd) (readR16 s rs)

/-- `MOV.W Rs,@-ERd` (R178). An overlapping data register is refused (R187; log 15). -/
def execMovWStDec (rs : RegNum) (erd : ErNum) (s : State) : Res State :=
  if partOf rs erd then .refused .registerOverlap
  else storeWord (dropEr s erd 2#32) (eaInd (dropEr s erd 2#32) erd) (readR16 s rs)

/-- `MOV.W Rs,@aa:16` (R178). -/
def execMovWStAbs16 (rs : RegNum) (abs : Word) (s : State) : Res State := storeWord s (eaAbs16 abs) (readR16 s rs)

/-- `MOV.W Rs,@aa:24` (R178). -/
def execMovWStAbs24 (rs : RegNum) (abs : BitVec 24) (s : State) : Res State := storeWord s (eaAbs24 abs) (readR16 s rs)

/-- `MOV.L #xx:32,ERd` (R179). -/
def execMovLImm (imm : Long) (erd : ErNum) (s : State) : Res State := .next (resultEr s erd imm)

/-- `MOV.L ERs,ERd` (R180). -/
def execMovLReg (ers : ErNum) (erd : ErNum) (s : State) : Res State := .next (resultEr s erd (readEr s ers))

/-- `MOV.L @ERs,ERd` (R181). -/
def execMovLLdInd (ers : ErNum) (erd : ErNum) (s : State) : Res State :=
  andThen (readLong s (eaInd s ers)) fun v => .next (resultEr s erd v)

/-- `MOV.L @(d:16,ERs),ERd` (R181). -/
def execMovLLdDisp16 (disp : Word) (ers : ErNum) (erd : ErNum) (s : State) : Res State :=
  andThen (readLong s (eaDisp16 s disp ers)) fun v => .next (resultEr s erd v)

/-- `MOV.L @(d:24,ERs),ERd` (R181). -/
def execMovLLdDisp24 (disp : BitVec 24) (ers : ErNum) (erd : ErNum) (s : State) : Res State :=
  andThen (readLong s (eaDisp24 s disp ers)) fun v => .next (resultEr s erd v)

/-- `MOV.L @ERs+,ERd` (R181). An overlapping data register is refused (R187; log 15). -/
def execMovLLdInc (ers : ErNum) (erd : ErNum) (s : State) : Res State :=
  if erd == ers then .refused .registerOverlap
  else andThen (readLong s (eaInd s ers)) fun v => .next (resultEr (bumpEr s ers 4#32) erd v)

/-- `MOV.L @aa:16,ERd` (R181). -/
def execMovLLdAbs16 (abs : Word) (erd : ErNum) (s : State) : Res State :=
  andThen (readLong s (eaAbs16 abs)) fun v => .next (resultEr s erd v)

/-- `MOV.L @aa:24,ERd` (R181). -/
def execMovLLdAbs24 (abs : BitVec 24) (erd : ErNum) (s : State) : Res State :=
  andThen (readLong s (eaAbs24 abs)) fun v => .next (resultEr s erd v)

/-- `MOV.L ERs,@ERd` (R182). -/
def execMovLStInd (ers : ErNum) (erd : ErNum) (s : State) : Res State := storeLong s (eaInd s erd) (readEr s ers)

/-- `MOV.L ERs,@(d:16,ERd)` (R182). -/
def execMovLStDisp16 (ers : ErNum) (disp : Word) (erd : ErNum) (s : State) : Res State :=
  storeLong s (eaDisp16 s disp erd) (readEr s ers)

/-- `MOV.L ERs,@(d:24,ERd)` (R182). -/
def execMovLStDisp24 (ers : ErNum) (disp : BitVec 24) (erd : ErNum) (s : State) : Res State :=
  storeLong s (eaDisp24 s disp erd) (readEr s ers)

/-- `MOV.L ERs,@-ERd` (R182). An overlapping data register is refused (R187; log 15). -/
def execMovLStDec (ers : ErNum) (erd : ErNum) (s : State) : Res State :=
  if ers == erd then .refused .registerOverlap
  else storeLong (dropEr s erd 4#32) (eaInd (dropEr s erd 4#32) erd) (readEr s ers)

/-- `MOV.L ERs,@aa:16` (R182). -/
def execMovLStAbs16 (ers : ErNum) (abs : Word) (s : State) : Res State := storeLong s (eaAbs16 abs) (readEr s ers)

/-- `MOV.L ERs,@aa:24` (R182). -/
def execMovLStAbs24 (ers : ErNum) (abs : BitVec 24) (s : State) : Res State := storeLong s (eaAbs24 abs) (readEr s ers)

/-- `PUSH.W Rn` (R183). A part of SP itself is refused (R187; log 15). -/
def execPushW (rn : RegNum) (s : State) : Res State :=
  if partOf rn spNum then .refused .registerOverlap
  else storeWord (dropEr s spNum 2#32) (eaInd (dropEr s spNum 2#32) spNum) (readR16 s rn)

/-- `PUSH.L ERn` (R184). A part of SP itself is refused (R187; log 15). -/
def execPushL (ern : ErNum) (s : State) : Res State :=
  if ern == spNum then .refused .registerOverlap
  else storeLong (dropEr s spNum 4#32) (eaInd (dropEr s spNum 4#32) spNum) (readEr s ern)

/-- `POP.W Rn` (R185). A part of SP itself is refused (R187; log 15). -/
def execPopW (rn : RegNum) (s : State) : Res State :=
  if partOf rn spNum then .refused .registerOverlap
  else andThen (readWord s (eaInd s spNum)) fun v => .next (resultR16 (bumpEr s spNum 2#32) rn v)

/-- `POP.L ERn` (R186). A part of SP itself is refused (R187; log 15). -/
def execPopL (ern : ErNum) (s : State) : Res State :=
  if ern == spNum then .refused .registerOverlap
  else andThen (readLong s (eaInd s spNum)) fun v => .next (resultEr (bumpEr s spNum 4#32) ern v)

end Sys2Proof.Machine
end

