-- ==== Sys2Proof/Machine/Logic.lean ====
section
/-!
DEFINITION. The meanings of the logic instructions (spec/42_logic.md R280 to R293).
Each has a definition of its own over the shared operations; PC is already the address of the next instruction
(spec/00_scope.md R18).
-/

namespace Sys2Proof.Machine

/-- `AND.B #xx:8,Rd` (R281). -/
def execAndBImm (imm : Byte) (rd : RegNum) (s : State) : Res State := .next (resultR8 s rd (readR8 s rd &&& imm))

/-- `AND.B Rs,Rd` (R281). -/
def execAndBReg (rs : RegNum) (rd : RegNum) (s : State) : Res State :=
  .next (resultR8 s rd (readR8 s rd &&& readR8 s rs))

/-- `AND.W #xx:16,Rd` (R282). -/
def execAndWImm (imm : Word) (rd : RegNum) (s : State) : Res State := .next (resultR16 s rd (readR16 s rd &&& imm))

/-- `AND.W Rs,Rd` (R282). -/
def execAndWReg (rs : RegNum) (rd : RegNum) (s : State) : Res State :=
  .next (resultR16 s rd (readR16 s rd &&& readR16 s rs))

/-- `AND.L #xx:32,ERd` (R283). -/
def execAndLImm (imm : Long) (erd : ErNum) (s : State) : Res State := .next (resultEr s erd (readEr s erd &&& imm))

/-- `AND.L ERs,ERd` (R283). -/
def execAndLReg (ers : ErNum) (erd : ErNum) (s : State) : Res State :=
  .next (resultEr s erd (readEr s erd &&& readEr s ers))

/-- `OR.B #xx:8,Rd` (R284). -/
def execOrBImm (imm : Byte) (rd : RegNum) (s : State) : Res State := .next (resultR8 s rd (readR8 s rd ||| imm))

/-- `OR.B Rs,Rd` (R284). -/
def execOrBReg (rs : RegNum) (rd : RegNum) (s : State) : Res State :=
  .next (resultR8 s rd (readR8 s rd ||| readR8 s rs))

/-- `OR.W #xx:16,Rd` (R285). -/
def execOrWImm (imm : Word) (rd : RegNum) (s : State) : Res State := .next (resultR16 s rd (readR16 s rd ||| imm))

/-- `OR.W Rs,Rd` (R285). -/
def execOrWReg (rs : RegNum) (rd : RegNum) (s : State) : Res State :=
  .next (resultR16 s rd (readR16 s rd ||| readR16 s rs))

/-- `OR.L #xx:32,ERd` (R286). -/
def execOrLImm (imm : Long) (erd : ErNum) (s : State) : Res State := .next (resultEr s erd (readEr s erd ||| imm))

/-- `OR.L ERs,ERd` (R286). -/
def execOrLReg (ers : ErNum) (erd : ErNum) (s : State) : Res State :=
  .next (resultEr s erd (readEr s erd ||| readEr s ers))

/-- `XOR.B #xx:8,Rd` (R287). -/
def execXorBImm (imm : Byte) (rd : RegNum) (s : State) : Res State := .next (resultR8 s rd (readR8 s rd ^^^ imm))

/-- `XOR.B Rs,Rd` (R287). -/
def execXorBReg (rs : RegNum) (rd : RegNum) (s : State) : Res State :=
  .next (resultR8 s rd (readR8 s rd ^^^ readR8 s rs))

/-- `XOR.W #xx:16,Rd` (R288). -/
def execXorWImm (imm : Word) (rd : RegNum) (s : State) : Res State := .next (resultR16 s rd (readR16 s rd ^^^ imm))

/-- `XOR.W Rs,Rd` (R288). -/
def execXorWReg (rs : RegNum) (rd : RegNum) (s : State) : Res State :=
  .next (resultR16 s rd (readR16 s rd ^^^ readR16 s rs))

/-- `XOR.L #xx:32,ERd` (R289). -/
def execXorLImm (imm : Long) (erd : ErNum) (s : State) : Res State := .next (resultEr s erd (readEr s erd ^^^ imm))

/-- `XOR.L ERs,ERd` (R289). -/
def execXorLReg (ers : ErNum) (erd : ErNum) (s : State) : Res State :=
  .next (resultEr s erd (readEr s erd ^^^ readEr s ers))

/-- `NOT.B Rd` (R290). -/
def execNotB (rd : RegNum) (s : State) : Res State := .next (resultR8 s rd (~~~(readR8 s rd)))

/-- `NOT.W Rd` (R291). -/
def execNotW (rd : RegNum) (s : State) : Res State := .next (resultR16 s rd (~~~(readR16 s rd)))

/-- `NOT.L ERd` (R292). -/
def execNotL (erd : ErNum) (s : State) : Res State := .next (resultEr s erd (~~~(readEr s erd)))

end Sys2Proof.Machine
end

