-- ==== Sys2Proof/Machine/Shift.lean ====
section
/-!
DEFINITION. The meanings of the shift and rotate instructions (spec/43_shift.md R300 to R310).
Each has a definition of its own over the shared operations; PC is already the address of the next instruction
(spec/00_scope.md R18).
-/

namespace Sys2Proof.Machine

/-- `SHAL.B Rd` (R301). -/
def execShalB (rd : RegNum) (s : State) : Res State := .next (shiftR8 s rd (shal (readR8 s rd)))

/-- `SHAL.W Rd` (R301). -/
def execShalW (rd : RegNum) (s : State) : Res State := .next (shiftR16 s rd (shal (readR16 s rd)))

/-- `SHAL.L ERd` (R301). -/
def execShalL (erd : ErNum) (s : State) : Res State := .next (shiftEr s erd (shal (readEr s erd)))

/-- `SHAR.B Rd` (R302). -/
def execSharB (rd : RegNum) (s : State) : Res State := .next (shiftR8 s rd (shar (readR8 s rd)))

/-- `SHAR.W Rd` (R302). -/
def execSharW (rd : RegNum) (s : State) : Res State := .next (shiftR16 s rd (shar (readR16 s rd)))

/-- `SHAR.L ERd` (R302). -/
def execSharL (erd : ErNum) (s : State) : Res State := .next (shiftEr s erd (shar (readEr s erd)))

/-- `SHLL.B Rd` (R303). -/
def execShllB (rd : RegNum) (s : State) : Res State := .next (shiftR8 s rd (shll (readR8 s rd)))

/-- `SHLL.W Rd` (R303). -/
def execShllW (rd : RegNum) (s : State) : Res State := .next (shiftR16 s rd (shll (readR16 s rd)))

/-- `SHLL.L ERd` (R303). -/
def execShllL (erd : ErNum) (s : State) : Res State := .next (shiftEr s erd (shll (readEr s erd)))

/-- `SHLR.B Rd` (R304). -/
def execShlrB (rd : RegNum) (s : State) : Res State := .next (shiftR8 s rd (shlr (readR8 s rd)))

/-- `SHLR.W Rd` (R304). -/
def execShlrW (rd : RegNum) (s : State) : Res State := .next (shiftR16 s rd (shlr (readR16 s rd)))

/-- `SHLR.L ERd` (R304). -/
def execShlrL (erd : ErNum) (s : State) : Res State := .next (shiftEr s erd (shlr (readEr s erd)))

/-- `ROTL.B Rd` (R305). -/
def execRotlB (rd : RegNum) (s : State) : Res State := .next (shiftR8 s rd (rotl (readR8 s rd)))

/-- `ROTL.W Rd` (R305). -/
def execRotlW (rd : RegNum) (s : State) : Res State := .next (shiftR16 s rd (rotl (readR16 s rd)))

/-- `ROTL.L ERd` (R305). -/
def execRotlL (erd : ErNum) (s : State) : Res State := .next (shiftEr s erd (rotl (readEr s erd)))

/-- `ROTR.B Rd` (R306). -/
def execRotrB (rd : RegNum) (s : State) : Res State := .next (shiftR8 s rd (rotr (readR8 s rd)))

/-- `ROTR.W Rd` (R306). -/
def execRotrW (rd : RegNum) (s : State) : Res State := .next (shiftR16 s rd (rotr (readR16 s rd)))

/-- `ROTR.L ERd` (R306). -/
def execRotrL (erd : ErNum) (s : State) : Res State := .next (shiftEr s erd (rotr (readEr s erd)))

/-- `ROTXL.B Rd` (R307). -/
def execRotxlB (rd : RegNum) (s : State) : Res State := .next (shiftR8 s rd (rotxl (readR8 s rd) (ccrGet s.ccr .c)))

/-- `ROTXL.W Rd` (R307). -/
def execRotxlW (rd : RegNum) (s : State) : Res State := .next (shiftR16 s rd (rotxl (readR16 s rd) (ccrGet s.ccr .c)))

/-- `ROTXL.L ERd` (R307). -/
def execRotxlL (erd : ErNum) (s : State) : Res State := .next (shiftEr s erd (rotxl (readEr s erd) (ccrGet s.ccr .c)))

/-- `ROTXR.B Rd` (R308). -/
def execRotxrB (rd : RegNum) (s : State) : Res State := .next (shiftR8 s rd (rotxr (readR8 s rd) (ccrGet s.ccr .c)))

/-- `ROTXR.W Rd` (R308). -/
def execRotxrW (rd : RegNum) (s : State) : Res State := .next (shiftR16 s rd (rotxr (readR16 s rd) (ccrGet s.ccr .c)))

/-- `ROTXR.L ERd` (R308). -/
def execRotxrL (erd : ErNum) (s : State) : Res State := .next (shiftEr s erd (rotxr (readEr s erd) (ccrGet s.ccr .c)))

end Sys2Proof.Machine
end

