-- ==== Sys2Proof/Machine/SystemControl.lean ====
section
/-!
DEFINITION. The meanings of the system control instructions (spec/46_system_control.md R390 to R402).
Each has a definition of its own over the shared operations; PC is already the address of the next instruction
(spec/00_scope.md R18).
-/

namespace Sys2Proof.Machine

/-- LDC.W (spec/46_system_control.md R394): the word at `a` is read in `s`, and CCR of `s1` becomes its upper byte. The
odd byte is read and ignored (D18; log 32). -/
def loadCcr (s : State) (a : Addr) (s1 : State) : Res State :=
  andThen (readWord s a) fun w => .next (s1.setCcr (w.extractLsb' 8 8))

/-- STC.W (R396): CCR goes to the even byte, a free value to the odd one (D18; log 8). -/
def saveCcr (s : State) (a : Addr) : Res State := writeWord (s.drawn 1) a (s.ccr ++ Config.freeBits 8 s.draws)

/-- `LDC.B #xx:8,CCR` (R392). -/
def execLdcBImm (imm : Byte) (s : State) : Res State := .next (s.setCcr imm)

/-- `LDC.B Rs,CCR` (R393). -/
def execLdcBReg (rs : RegNum) (s : State) : Res State := .next (s.setCcr (readR8 s rs))

/-- `LDC.W @ERs,CCR` (R394). -/
def execLdcWInd (ers : ErNum) (s : State) : Res State := loadCcr s (eaInd s ers) s

/-- `LDC.W @(d:16,ERs),CCR` (R394). -/
def execLdcWDisp16 (disp : Word) (ers : ErNum) (s : State) : Res State := loadCcr s (eaDisp16 s disp ers) s

/-- `LDC.W @(d:24,ERs),CCR` (R394). -/
def execLdcWDisp24 (disp : BitVec 24) (ers : ErNum) (s : State) : Res State := loadCcr s (eaDisp24 s disp ers) s

/-- `LDC.W @ERs+,CCR` (R394). -/
def execLdcWInc (ers : ErNum) (s : State) : Res State := loadCcr s (eaInd s ers) (bumpEr s ers 2#32)

/-- `LDC.W @aa:16,CCR` (R394). -/
def execLdcWAbs16 (abs : Word) (s : State) : Res State := loadCcr s (eaAbs16 abs) s

/-- `LDC.W @aa:24,CCR` (R394). -/
def execLdcWAbs24 (abs : BitVec 24) (s : State) : Res State := loadCcr s (eaAbs24 abs) s

/-- `STC.B CCR,Rd` (R395). -/
def execStcBReg (rd : RegNum) (s : State) : Res State := .next (writeR8 s rd s.ccr)

/-- `STC.W CCR,@ERd` (R396). -/
def execStcWInd (erd : ErNum) (s : State) : Res State := saveCcr s (eaInd s erd)

/-- `STC.W CCR,@(d:16,ERd)` (R396). -/
def execStcWDisp16 (disp : Word) (erd : ErNum) (s : State) : Res State := saveCcr s (eaDisp16 s disp erd)

/-- `STC.W CCR,@(d:24,ERd)` (R396). -/
def execStcWDisp24 (disp : BitVec 24) (erd : ErNum) (s : State) : Res State := saveCcr s (eaDisp24 s disp erd)

/-- `STC.W CCR,@-ERd` (R396). -/
def execStcWDec (erd : ErNum) (s : State) : Res State := saveCcr (dropEr s erd 2#32) (eaInd (dropEr s erd 2#32) erd)

/-- `STC.W CCR,@aa:16` (R396). -/
def execStcWAbs16 (abs : Word) (s : State) : Res State := saveCcr s (eaAbs16 abs)

/-- `STC.W CCR,@aa:24` (R396). -/
def execStcWAbs24 (abs : BitVec 24) (s : State) : Res State := saveCcr s (eaAbs24 abs)

/-- `ANDC #xx:8,CCR` (R397). -/
def execAndc (imm : Byte) (s : State) : Res State := .next (s.setCcr (s.ccr &&& imm))

/-- `ORC #xx:8,CCR` (R398). -/
def execOrc (imm : Byte) (s : State) : Res State := .next (s.setCcr (s.ccr ||| imm))

/-- `XORC #xx:8,CCR` (R399). -/
def execXorc (imm : Byte) (s : State) : Res State := .next (s.setCcr (s.ccr ^^^ imm))

/-- `TRAPA #xx:2` (R401). -/
def execTrapa (vec : BitVec 2) (s : State) : Res State := exceptionEntry (trapVector vec) s

/-- `RTE` (R390). -/
def execRte (s : State) : Res State := exceptionReturn s

/-- `SLEEP` (R391). It only sets `sleeping`; what happens then is the exception check (R444; log 24). -/
def execSleep (s : State) : Res State := .next (s.setSleeping true)

/-- `NOP` (R400). -/
def execNop (s : State) : Res State := .next s

end Sys2Proof.Machine
end

