-- ==== Sys2Proof/Machine/Dispatch.lean ====
section
/-!
DEFINITION. Which meaning each instruction has: one arm per constructor of `Instr`, each one direct call.
-/

namespace Sys2Proof.Machine

/-- The meaning of an instruction, in a state whose PC is already the address of the next one (spec/00_scope.md R18). -/
def exec (i : Instr) (s : State) : Host.Outcome State Fault Refusal :=
  match i with
  | .movBImm imm rd => Sys2Proof.Machine.execMovBImm imm rd s
  | .movBReg rs rd => Sys2Proof.Machine.execMovBReg rs rd s
  | .movBLdInd ers rd => Sys2Proof.Machine.execMovBLdInd ers rd s
  | .movBLdDisp16 disp ers rd => Sys2Proof.Machine.execMovBLdDisp16 disp ers rd s
  | .movBLdDisp24 disp ers rd => Sys2Proof.Machine.execMovBLdDisp24 disp ers rd s
  | .movBLdInc ers rd => Sys2Proof.Machine.execMovBLdInc ers rd s
  | .movBLdAbs8 abs rd => Sys2Proof.Machine.execMovBLdAbs8 abs rd s
  | .movBLdAbs16 abs rd => Sys2Proof.Machine.execMovBLdAbs16 abs rd s
  | .movBLdAbs24 abs rd => Sys2Proof.Machine.execMovBLdAbs24 abs rd s
  | .movBStInd rs erd => Sys2Proof.Machine.execMovBStInd rs erd s
  | .movBStDisp16 rs disp erd => Sys2Proof.Machine.execMovBStDisp16 rs disp erd s
  | .movBStDisp24 rs disp erd => Sys2Proof.Machine.execMovBStDisp24 rs disp erd s
  | .movBStDec rs erd => Sys2Proof.Machine.execMovBStDec rs erd s
  | .movBStAbs8 rs abs => Sys2Proof.Machine.execMovBStAbs8 rs abs s
  | .movBStAbs16 rs abs => Sys2Proof.Machine.execMovBStAbs16 rs abs s
  | .movBStAbs24 rs abs => Sys2Proof.Machine.execMovBStAbs24 rs abs s
  | .movWImm imm rd => Sys2Proof.Machine.execMovWImm imm rd s
  | .movWReg rs rd => Sys2Proof.Machine.execMovWReg rs rd s
  | .movWLdInd ers rd => Sys2Proof.Machine.execMovWLdInd ers rd s
  | .movWLdDisp16 disp ers rd => Sys2Proof.Machine.execMovWLdDisp16 disp ers rd s
  | .movWLdDisp24 disp ers rd => Sys2Proof.Machine.execMovWLdDisp24 disp ers rd s
  | .movWLdInc ers rd => Sys2Proof.Machine.execMovWLdInc ers rd s
  | .movWLdAbs16 abs rd => Sys2Proof.Machine.execMovWLdAbs16 abs rd s
  | .movWLdAbs24 abs rd => Sys2Proof.Machine.execMovWLdAbs24 abs rd s
  | .movWStInd rs erd => Sys2Proof.Machine.execMovWStInd rs erd s
  | .movWStDisp16 rs disp erd => Sys2Proof.Machine.execMovWStDisp16 rs disp erd s
  | .movWStDisp24 rs disp erd => Sys2Proof.Machine.execMovWStDisp24 rs disp erd s
  | .movWStDec rs erd => Sys2Proof.Machine.execMovWStDec rs erd s
  | .movWStAbs16 rs abs => Sys2Proof.Machine.execMovWStAbs16 rs abs s
  | .movWStAbs24 rs abs => Sys2Proof.Machine.execMovWStAbs24 rs abs s
  | .movLImm imm erd => Sys2Proof.Machine.execMovLImm imm erd s
  | .movLReg ers erd => Sys2Proof.Machine.execMovLReg ers erd s
  | .movLLdInd ers erd => Sys2Proof.Machine.execMovLLdInd ers erd s
  | .movLLdDisp16 disp ers erd => Sys2Proof.Machine.execMovLLdDisp16 disp ers erd s
  | .movLLdDisp24 disp ers erd => Sys2Proof.Machine.execMovLLdDisp24 disp ers erd s
  | .movLLdInc ers erd => Sys2Proof.Machine.execMovLLdInc ers erd s
  | .movLLdAbs16 abs erd => Sys2Proof.Machine.execMovLLdAbs16 abs erd s
  | .movLLdAbs24 abs erd => Sys2Proof.Machine.execMovLLdAbs24 abs erd s
  | .movLStInd ers erd => Sys2Proof.Machine.execMovLStInd ers erd s
  | .movLStDisp16 ers disp erd => Sys2Proof.Machine.execMovLStDisp16 ers disp erd s
  | .movLStDisp24 ers disp erd => Sys2Proof.Machine.execMovLStDisp24 ers disp erd s
  | .movLStDec ers erd => Sys2Proof.Machine.execMovLStDec ers erd s
  | .movLStAbs16 ers abs => Sys2Proof.Machine.execMovLStAbs16 ers abs s
  | .movLStAbs24 ers abs => Sys2Proof.Machine.execMovLStAbs24 ers abs s
  | .pushW rn => Sys2Proof.Machine.execPushW rn s
  | .pushL ern => Sys2Proof.Machine.execPushL ern s
  | .popW rn => Sys2Proof.Machine.execPopW rn s
  | .popL ern => Sys2Proof.Machine.execPopL ern s
  | .addBImm imm rd => Sys2Proof.Machine.execAddBImm imm rd s
  | .addBReg rs rd => Sys2Proof.Machine.execAddBReg rs rd s
  | .addWImm imm rd => Sys2Proof.Machine.execAddWImm imm rd s
  | .addWReg rs rd => Sys2Proof.Machine.execAddWReg rs rd s
  | .addLImm imm erd => Sys2Proof.Machine.execAddLImm imm erd s
  | .addLReg ers erd => Sys2Proof.Machine.execAddLReg ers erd s
  | .subBReg rs rd => Sys2Proof.Machine.execSubBReg rs rd s
  | .subWImm imm rd => Sys2Proof.Machine.execSubWImm imm rd s
  | .subWReg rs rd => Sys2Proof.Machine.execSubWReg rs rd s
  | .subLImm imm erd => Sys2Proof.Machine.execSubLImm imm erd s
  | .subLReg ers erd => Sys2Proof.Machine.execSubLReg ers erd s
  | .addxBImm imm rd => Sys2Proof.Machine.execAddxBImm imm rd s
  | .addxBReg rs rd => Sys2Proof.Machine.execAddxBReg rs rd s
  | .subxBImm imm rd => Sys2Proof.Machine.execSubxBImm imm rd s
  | .subxBReg rs rd => Sys2Proof.Machine.execSubxBReg rs rd s
  | .incB rd => Sys2Proof.Machine.execIncB rd s
  | .incW1 rd => Sys2Proof.Machine.execIncW1 rd s
  | .incW2 rd => Sys2Proof.Machine.execIncW2 rd s
  | .incL1 erd => Sys2Proof.Machine.execIncL1 erd s
  | .incL2 erd => Sys2Proof.Machine.execIncL2 erd s
  | .decB rd => Sys2Proof.Machine.execDecB rd s
  | .decW1 rd => Sys2Proof.Machine.execDecW1 rd s
  | .decW2 rd => Sys2Proof.Machine.execDecW2 rd s
  | .decL1 erd => Sys2Proof.Machine.execDecL1 erd s
  | .decL2 erd => Sys2Proof.Machine.execDecL2 erd s
  | .adds1 erd => Sys2Proof.Machine.execAdds1 erd s
  | .adds2 erd => Sys2Proof.Machine.execAdds2 erd s
  | .adds4 erd => Sys2Proof.Machine.execAdds4 erd s
  | .subs1 erd => Sys2Proof.Machine.execSubs1 erd s
  | .subs2 erd => Sys2Proof.Machine.execSubs2 erd s
  | .subs4 erd => Sys2Proof.Machine.execSubs4 erd s
  | .daa rd => Sys2Proof.Machine.execDaa rd s
  | .das rd => Sys2Proof.Machine.execDas rd s
  | .mulxuB rs rd => Sys2Proof.Machine.execMulxuB rs rd s
  | .mulxuW rs erd => Sys2Proof.Machine.execMulxuW rs erd s
  | .divxuB rs rd => Sys2Proof.Machine.execDivxuB rs rd s
  | .divxuW rs erd => Sys2Proof.Machine.execDivxuW rs erd s
  | .mulxsB rs rd => Sys2Proof.Machine.execMulxsB rs rd s
  | .mulxsW rs erd => Sys2Proof.Machine.execMulxsW rs erd s
  | .divxsB rs rd => Sys2Proof.Machine.execDivxsB rs rd s
  | .divxsW rs erd => Sys2Proof.Machine.execDivxsW rs erd s
  | .cmpBImm imm rd => Sys2Proof.Machine.execCmpBImm imm rd s
  | .cmpBReg rs rd => Sys2Proof.Machine.execCmpBReg rs rd s
  | .cmpWImm imm rd => Sys2Proof.Machine.execCmpWImm imm rd s
  | .cmpWReg rs rd => Sys2Proof.Machine.execCmpWReg rs rd s
  | .cmpLImm imm erd => Sys2Proof.Machine.execCmpLImm imm erd s
  | .cmpLReg ers erd => Sys2Proof.Machine.execCmpLReg ers erd s
  | .negB rd => Sys2Proof.Machine.execNegB rd s
  | .negW rd => Sys2Proof.Machine.execNegW rd s
  | .negL erd => Sys2Proof.Machine.execNegL erd s
  | .extuW rd => Sys2Proof.Machine.execExtuW rd s
  | .extuL erd => Sys2Proof.Machine.execExtuL erd s
  | .extsW rd => Sys2Proof.Machine.execExtsW rd s
  | .extsL erd => Sys2Proof.Machine.execExtsL erd s
  | .andBImm imm rd => Sys2Proof.Machine.execAndBImm imm rd s
  | .andBReg rs rd => Sys2Proof.Machine.execAndBReg rs rd s
  | .andWImm imm rd => Sys2Proof.Machine.execAndWImm imm rd s
  | .andWReg rs rd => Sys2Proof.Machine.execAndWReg rs rd s
  | .andLImm imm erd => Sys2Proof.Machine.execAndLImm imm erd s
  | .andLReg ers erd => Sys2Proof.Machine.execAndLReg ers erd s
  | .orBImm imm rd => Sys2Proof.Machine.execOrBImm imm rd s
  | .orBReg rs rd => Sys2Proof.Machine.execOrBReg rs rd s
  | .orWImm imm rd => Sys2Proof.Machine.execOrWImm imm rd s
  | .orWReg rs rd => Sys2Proof.Machine.execOrWReg rs rd s
  | .orLImm imm erd => Sys2Proof.Machine.execOrLImm imm erd s
  | .orLReg ers erd => Sys2Proof.Machine.execOrLReg ers erd s
  | .xorBImm imm rd => Sys2Proof.Machine.execXorBImm imm rd s
  | .xorBReg rs rd => Sys2Proof.Machine.execXorBReg rs rd s
  | .xorWImm imm rd => Sys2Proof.Machine.execXorWImm imm rd s
  | .xorWReg rs rd => Sys2Proof.Machine.execXorWReg rs rd s
  | .xorLImm imm erd => Sys2Proof.Machine.execXorLImm imm erd s
  | .xorLReg ers erd => Sys2Proof.Machine.execXorLReg ers erd s
  | .notB rd => Sys2Proof.Machine.execNotB rd s
  | .notW rd => Sys2Proof.Machine.execNotW rd s
  | .notL erd => Sys2Proof.Machine.execNotL erd s
  | .shalB rd => Sys2Proof.Machine.execShalB rd s
  | .shalW rd => Sys2Proof.Machine.execShalW rd s
  | .shalL erd => Sys2Proof.Machine.execShalL erd s
  | .sharB rd => Sys2Proof.Machine.execSharB rd s
  | .sharW rd => Sys2Proof.Machine.execSharW rd s
  | .sharL erd => Sys2Proof.Machine.execSharL erd s
  | .shllB rd => Sys2Proof.Machine.execShllB rd s
  | .shllW rd => Sys2Proof.Machine.execShllW rd s
  | .shllL erd => Sys2Proof.Machine.execShllL erd s
  | .shlrB rd => Sys2Proof.Machine.execShlrB rd s
  | .shlrW rd => Sys2Proof.Machine.execShlrW rd s
  | .shlrL erd => Sys2Proof.Machine.execShlrL erd s
  | .rotlB rd => Sys2Proof.Machine.execRotlB rd s
  | .rotlW rd => Sys2Proof.Machine.execRotlW rd s
  | .rotlL erd => Sys2Proof.Machine.execRotlL erd s
  | .rotrB rd => Sys2Proof.Machine.execRotrB rd s
  | .rotrW rd => Sys2Proof.Machine.execRotrW rd s
  | .rotrL erd => Sys2Proof.Machine.execRotrL erd s
  | .rotxlB rd => Sys2Proof.Machine.execRotxlB rd s
  | .rotxlW rd => Sys2Proof.Machine.execRotxlW rd s
  | .rotxlL erd => Sys2Proof.Machine.execRotxlL erd s
  | .rotxrB rd => Sys2Proof.Machine.execRotxrB rd s
  | .rotxrW rd => Sys2Proof.Machine.execRotxrW rd s
  | .rotxrL erd => Sys2Proof.Machine.execRotxrL erd s
  | .bsetImmReg bit rd => Sys2Proof.Machine.execBsetImmReg bit rd s
  | .bsetImmInd bit erd => Sys2Proof.Machine.execBsetImmInd bit erd s
  | .bsetImmAbs8 bit abs => Sys2Proof.Machine.execBsetImmAbs8 bit abs s
  | .bsetRnReg rn rd => Sys2Proof.Machine.execBsetRnReg rn rd s
  | .bsetRnInd rn erd => Sys2Proof.Machine.execBsetRnInd rn erd s
  | .bsetRnAbs8 rn abs => Sys2Proof.Machine.execBsetRnAbs8 rn abs s
  | .bclrImmReg bit rd => Sys2Proof.Machine.execBclrImmReg bit rd s
  | .bclrImmInd bit erd => Sys2Proof.Machine.execBclrImmInd bit erd s
  | .bclrImmAbs8 bit abs => Sys2Proof.Machine.execBclrImmAbs8 bit abs s
  | .bclrRnReg rn rd => Sys2Proof.Machine.execBclrRnReg rn rd s
  | .bclrRnInd rn erd => Sys2Proof.Machine.execBclrRnInd rn erd s
  | .bclrRnAbs8 rn abs => Sys2Proof.Machine.execBclrRnAbs8 rn abs s
  | .bnotImmReg bit rd => Sys2Proof.Machine.execBnotImmReg bit rd s
  | .bnotImmInd bit erd => Sys2Proof.Machine.execBnotImmInd bit erd s
  | .bnotImmAbs8 bit abs => Sys2Proof.Machine.execBnotImmAbs8 bit abs s
  | .bnotRnReg rn rd => Sys2Proof.Machine.execBnotRnReg rn rd s
  | .bnotRnInd rn erd => Sys2Proof.Machine.execBnotRnInd rn erd s
  | .bnotRnAbs8 rn abs => Sys2Proof.Machine.execBnotRnAbs8 rn abs s
  | .btstImmReg bit rd => Sys2Proof.Machine.execBtstImmReg bit rd s
  | .btstImmInd bit erd => Sys2Proof.Machine.execBtstImmInd bit erd s
  | .btstImmAbs8 bit abs => Sys2Proof.Machine.execBtstImmAbs8 bit abs s
  | .btstRnReg rn rd => Sys2Proof.Machine.execBtstRnReg rn rd s
  | .btstRnInd rn erd => Sys2Proof.Machine.execBtstRnInd rn erd s
  | .btstRnAbs8 rn abs => Sys2Proof.Machine.execBtstRnAbs8 rn abs s
  | .bandReg bit rd => Sys2Proof.Machine.execBandReg bit rd s
  | .bandInd bit erd => Sys2Proof.Machine.execBandInd bit erd s
  | .bandAbs8 bit abs => Sys2Proof.Machine.execBandAbs8 bit abs s
  | .biandReg bit rd => Sys2Proof.Machine.execBiandReg bit rd s
  | .biandInd bit erd => Sys2Proof.Machine.execBiandInd bit erd s
  | .biandAbs8 bit abs => Sys2Proof.Machine.execBiandAbs8 bit abs s
  | .borReg bit rd => Sys2Proof.Machine.execBorReg bit rd s
  | .borInd bit erd => Sys2Proof.Machine.execBorInd bit erd s
  | .borAbs8 bit abs => Sys2Proof.Machine.execBorAbs8 bit abs s
  | .biorReg bit rd => Sys2Proof.Machine.execBiorReg bit rd s
  | .biorInd bit erd => Sys2Proof.Machine.execBiorInd bit erd s
  | .biorAbs8 bit abs => Sys2Proof.Machine.execBiorAbs8 bit abs s
  | .bxorReg bit rd => Sys2Proof.Machine.execBxorReg bit rd s
  | .bxorInd bit erd => Sys2Proof.Machine.execBxorInd bit erd s
  | .bxorAbs8 bit abs => Sys2Proof.Machine.execBxorAbs8 bit abs s
  | .bixorReg bit rd => Sys2Proof.Machine.execBixorReg bit rd s
  | .bixorInd bit erd => Sys2Proof.Machine.execBixorInd bit erd s
  | .bixorAbs8 bit abs => Sys2Proof.Machine.execBixorAbs8 bit abs s
  | .bldReg bit rd => Sys2Proof.Machine.execBldReg bit rd s
  | .bldInd bit erd => Sys2Proof.Machine.execBldInd bit erd s
  | .bldAbs8 bit abs => Sys2Proof.Machine.execBldAbs8 bit abs s
  | .bildReg bit rd => Sys2Proof.Machine.execBildReg bit rd s
  | .bildInd bit erd => Sys2Proof.Machine.execBildInd bit erd s
  | .bildAbs8 bit abs => Sys2Proof.Machine.execBildAbs8 bit abs s
  | .bstReg bit rd => Sys2Proof.Machine.execBstReg bit rd s
  | .bstInd bit erd => Sys2Proof.Machine.execBstInd bit erd s
  | .bstAbs8 bit abs => Sys2Proof.Machine.execBstAbs8 bit abs s
  | .bistReg bit rd => Sys2Proof.Machine.execBistReg bit rd s
  | .bistInd bit erd => Sys2Proof.Machine.execBistInd bit erd s
  | .bistAbs8 bit abs => Sys2Proof.Machine.execBistAbs8 bit abs s
  | .bra disp => Sys2Proof.Machine.execBra disp s
  | .brn disp => Sys2Proof.Machine.execBrn disp s
  | .bhi disp => Sys2Proof.Machine.execBhi disp s
  | .bls disp => Sys2Proof.Machine.execBls disp s
  | .bcc disp => Sys2Proof.Machine.execBcc disp s
  | .bcs disp => Sys2Proof.Machine.execBcs disp s
  | .bne disp => Sys2Proof.Machine.execBne disp s
  | .beq disp => Sys2Proof.Machine.execBeq disp s
  | .bvc disp => Sys2Proof.Machine.execBvc disp s
  | .bvs disp => Sys2Proof.Machine.execBvs disp s
  | .bpl disp => Sys2Proof.Machine.execBpl disp s
  | .bmi disp => Sys2Proof.Machine.execBmi disp s
  | .bge disp => Sys2Proof.Machine.execBge disp s
  | .blt disp => Sys2Proof.Machine.execBlt disp s
  | .bgt disp => Sys2Proof.Machine.execBgt disp s
  | .ble disp => Sys2Proof.Machine.execBle disp s
  | .jmpInd ern => Sys2Proof.Machine.execJmpInd ern s
  | .jmpAbs24 abs => Sys2Proof.Machine.execJmpAbs24 abs s
  | .jmpMemInd abs => Sys2Proof.Machine.execJmpMemInd abs s
  | .bsr disp => Sys2Proof.Machine.execBsr disp s
  | .jsrInd ern => Sys2Proof.Machine.execJsrInd ern s
  | .jsrAbs24 abs => Sys2Proof.Machine.execJsrAbs24 abs s
  | .jsrMemInd abs => Sys2Proof.Machine.execJsrMemInd abs s
  | .ldcBImm imm => Sys2Proof.Machine.execLdcBImm imm s
  | .ldcBReg rs => Sys2Proof.Machine.execLdcBReg rs s
  | .ldcWInd ers => Sys2Proof.Machine.execLdcWInd ers s
  | .ldcWDisp16 disp ers => Sys2Proof.Machine.execLdcWDisp16 disp ers s
  | .ldcWDisp24 disp ers => Sys2Proof.Machine.execLdcWDisp24 disp ers s
  | .ldcWInc ers => Sys2Proof.Machine.execLdcWInc ers s
  | .ldcWAbs16 abs => Sys2Proof.Machine.execLdcWAbs16 abs s
  | .ldcWAbs24 abs => Sys2Proof.Machine.execLdcWAbs24 abs s
  | .stcBReg rd => Sys2Proof.Machine.execStcBReg rd s
  | .stcWInd erd => Sys2Proof.Machine.execStcWInd erd s
  | .stcWDisp16 disp erd => Sys2Proof.Machine.execStcWDisp16 disp erd s
  | .stcWDisp24 disp erd => Sys2Proof.Machine.execStcWDisp24 disp erd s
  | .stcWDec erd => Sys2Proof.Machine.execStcWDec erd s
  | .stcWAbs16 abs => Sys2Proof.Machine.execStcWAbs16 abs s
  | .stcWAbs24 abs => Sys2Proof.Machine.execStcWAbs24 abs s
  | .andc imm => Sys2Proof.Machine.execAndc imm s
  | .orc imm => Sys2Proof.Machine.execOrc imm s
  | .xorc imm => Sys2Proof.Machine.execXorc imm s
  | .trapa vec => Sys2Proof.Machine.execTrapa vec s
  | .rts => Sys2Proof.Machine.execRts s
  | .rte => Sys2Proof.Machine.execRte s
  | .sleep => Sys2Proof.Machine.execSleep s
  | .nop => Sys2Proof.Machine.execNop s
  | .eepmovB => Sys2Proof.Machine.execEepmovB s
  | .eepmovW => Sys2Proof.Machine.execEepmovW s

end Sys2Proof.Machine
end

