-- ==== Sys2Proof/Machine/Step.lean ====
section
/-!
DEFINITION. One step of the machine: the start sequence (spec/70_reset_and_hazards.md R481) if it is still to run, otherwise
the exception check and what follows it (spec/60_exceptions.md R444).
-/

namespace Sys2Proof.Machine

/-- One instruction step (spec/00_scope.md R18): fetch, decode, move PC past the instruction, apply its meaning. -/
def runInstr (s : State) : Res State :=
  andThen (fetchInstr s) fun found => exec found.1 (advancePc s found.2)

/-- One step of the machine. -/
def step (s : State) : Host.Outcome State Fault Refusal :=
  if s.startPending then startSequence s else checkThen s runInstr

/-- `s` with an instruction of the opcode table stored where the next step fetches it (log 28). The start sequence is
taken as done, the CPU as awake, and the next exception check as finding no request (log 3). -/
def State.withFetchWord (s : State) (nbits w : Nat) : State :=
  let quiet := ((s.setStartPending false).setSleeping false).setIrq (s.irq.modifyHead fun _ => [])
  loadBytes quiet (evenAddr s.pc) (tableBytes nbits w)

end Sys2Proof.Machine
end

