-- ==== Sys2Proof/Laws/Decode.lean ====
section
/-!
SUPPORT. How the fields that the encoder puts together come apart again in the decoder, and that more bytes change no
answer of it.
-/

namespace Sys2Proof

@[simp] theorem hiNib_append (a b : Nibble) : hiNib (a ++ b) = a := by revert a b; unfold hiNib; decide
@[simp] theorem loNib_append (a b : Nibble) : loNib (a ++ b) = b := by revert a b; unfold loNib; decide
@[simp] theorem low3_append (x : BitVec 1) (e : BitVec 3) : low3 (x ++ e) = e := by revert x e; unfold low3; decide
@[simp] theorem topBit_append (x : BitVec 1) (e : BitVec 3) : topBit (x ++ e) = (x == 1#1) := by
  revert x e; unfold topBit; decide
@[simp] theorem trapa_zero (v : BitVec 2) : (0#2 ++ v : Nibble).extractLsb' 2 2 = 0#2 := by revert v; decide
@[simp] theorem trapa_vec (v : BitVec 2) : (0#2 ++ v : Nibble).extractLsb' 0 2 = v := by revert v; decide

/-- The high nibble of a byte written as a number. -/
@[simp] theorem hiNib_ofNat (n : Nat) : hiNib (BitVec.ofNat 8 n) = BitVec.ofNat 4 (n / 16) := by
  apply BitVec.eq_of_toNat_eq
  simp only [hiNib, BitVec.extractLsb'_toNat, BitVec.toNat_ofNat, Nat.shiftRight_eq_div_pow]
  omega

/-- The low nibble of a byte written as a number. -/
@[simp] theorem loNib_ofNat (n : Nat) : loNib (BitVec.ofNat 8 n) = BitVec.ofNat 4 n := by
  apply BitVec.eq_of_toNat_eq
  simp only [loNib, BitVec.extractLsb'_toNat, BitVec.toNat_ofNat, Nat.shiftRight_eq_div_pow]
  omega

/-- A byte is its two nibbles. -/
theorem nibbles (b : Byte) : hiNib b ++ loNib b = b := by revert b; unfold hiNib loNib; decide

/-- A nibble is its top bit and its low three bits. -/
theorem topBit_low3 (n : Nibble) : BitVec.ofBool (topBit n) ++ low3 n = n := by revert n; unfold topBit low3; decide

@[simp] theorem byteOf_8 (v : Byte) : byteOf v 0 = v := by simp [byteOf, BitVec.extractLsb'_eq_self]

/-- A 16-bit field from its two bytes. -/
@[simp] theorem be16_join (v : BitVec 16) : byteOf v 1 ++ byteOf v 0 = v := by
  apply BitVec.eq_of_getLsbD_eq
  intro i hi
  simp only [byteOf, BitVec.getLsbD_append, BitVec.getLsbD_extractLsb']
  split
  · simp [*]
  · simp [show i - 8 < 8 by omega, show 8 + (i - 8) = i by omega]

/-- A 24-bit field from its three bytes. -/
@[simp] theorem be24_join (v : BitVec 24) : byteOf v 2 ++ byteOf v 1 ++ byteOf v 0 = v := by
  apply BitVec.eq_of_getLsbD_eq
  intro i hi
  simp only [byteOf, BitVec.getLsbD_append, BitVec.getLsbD_extractLsb']
  split
  · simp [*]
  · split
    · simp [*, show 8 + (i - 8) = i by omega]
    · simp [show i - 8 - 8 < 8 by omega, show 16 + (i - 8 - 8) = i by omega]

/-- A 32-bit field from its four bytes. -/
@[simp] theorem be32_join (v : BitVec 32) : byteOf v 3 ++ byteOf v 2 ++ byteOf v 1 ++ byteOf v 0 = v := by
  apply BitVec.eq_of_getLsbD_eq
  intro i hi
  simp only [byteOf, BitVec.getLsbD_append, BitVec.getLsbD_extractLsb']
  split
  · simp [*]
  · split
    · simp [*, show 8 + (i - 8) = i by omega]
    · split
      · simp [*, show 16 + (i - 8 - 8) = i by omega]
      · simp [show i - 8 - 8 - 8 < 8 by omega, show 24 + (i - 8 - 8 - 8) = i by omega]

/-- The 24-bit operand of JMP and JSR, whose first byte ends the first word. -/
@[simp] theorem be24_join_word (v : BitVec 24) :
    HAppend.hAppend (α := BitVec 8) (β := BitVec 16) (γ := BitVec 24) (byteOf v 2) (byteOf v 1 ++ byteOf v 0) = v := by
  have e : byteOf v 2 ++ (byteOf v 1 ++ byteOf v 0) = v := by
    apply BitVec.eq_of_getLsbD_eq
    intro i hi
    simp only [byteOf, BitVec.getLsbD_append, BitVec.getLsbD_extractLsb']
    split
    · split
      · simp [*]
      · simp [show i - 8 < 8 by omega, show 8 + (i - 8) = i by omega]
    · simp [show i - (8 + 8) < 8 by omega, show 16 + (i - (8 + 8)) = i by omega]
  exact e

/-- First bytes that begin an instruction of more than 2 bytes, or a prefix word (R144). -/
abbrev longFirstBytes : List Byte :=
  [0x01#8, 0x58#8, 0x5A#8, 0x5C#8, 0x5E#8, 0x6A#8, 0x6B#8, 0x6E#8, 0x6F#8, 0x78#8, 0x79#8, 0x7A#8, 0x7B#8, 0x7C#8, 0x7D#8,
    0x7E#8, 0x7F#8]

/-- Any other first byte begins an instruction of 2 bytes. -/
theorem instrLength_two {c : Byte} (h : c ∉ longFirstBytes) (b : Byte) (rest : List Byte) :
    instrLength (c :: b :: rest) = some 2 := by
  simp only [List.mem_cons, not_or] at h
  unfold instrLength
  split
  · next e => simp only [List.cons.injEq] at e; exact absurd e.1 h.1
  · next e =>
    simp only [List.cons.injEq] at e
    obtain ⟨rfl, -, -⟩ := e
    simp [h]
  · next e => exact absurd rfl (e c b rest)

/-- The first bytes that hold a register number are among those. -/
theorem nibble_first_byte (r : Nibble) {n : Nibble}
    (h : n ∈ [0x2#4, 0x3#4, 0x8#4, 0x9#4, 0xA#4, 0xB#4, 0xC#4, 0xD#4, 0xE#4, 0xF#4]) :
    (n ++ r : Byte) ∉ longFirstBytes := by
  revert r n; decide

/-! ### More bytes -/

/-- What more bytes can change in an answer of the decoder: nothing, unless it had too few. -/
def Decoded.Extends (d e : Decoded) : Prop := d ≠ .short → e = d

theorem Decoded.Extends.same (d : Decoded) : d.Extends d := fun _ => rfl

theorem withWord_extends {f : Byte → Byte → List Byte → Decoded} {r : List Byte}
    (h : ∀ a b t, (f a b t).Extends (f a b (t ++ r))) : ∀ l, (withWord l f).Extends (withWord (l ++ r) f)
  | [] => fun n => absurd rfl n
  | [_] => fun n => absurd rfl n
  | a :: b :: t => h a b t

theorem with16_extends (f : Word → Decoded) (r : List Byte) : ∀ l, (with16 l f).Extends (with16 (l ++ r) f)
  | [] => fun n => absurd rfl n
  | [_] => fun n => absurd rfl n
  | _ :: _ :: _ => .same _

theorem with32_extends (f : Long → Decoded) (r : List Byte) : ∀ l, (with32 l f).Extends (with32 (l ++ r) f)
  | [] => fun n => absurd rfl n
  | [_] => fun n => absurd rfl n
  | [_, _] => fun n => absurd rfl n
  | [_, _, _] => fun n => absurd rfl n
  | _ :: _ :: _ :: _ :: _ => .same _

theorem with0x24_extends (f : BitVec 24 → Decoded) (r : List Byte) : ∀ l, (with0x24 l f).Extends (with0x24 (l ++ r) f)
  | [] => fun n => absurd rfl n
  | [_] => fun n => absurd rfl n
  | [_, _] => fun n => absurd rfl n
  | [_, _, _] => fun n => absurd rfl n
  | _ :: _ :: _ :: _ :: _ => .same _

theorem withLow3_extends {f g : BitVec 3 → Decoded} (h : ∀ e, (f e).Extends (g e)) (n : Nibble) :
    (withLow3 n f).Extends (withLow3 n g) := by
  unfold withLow3; split
  · exact .same _
  · exact h _

theorem ifZero_extends {w : Nat} {d e : Decoded} (h : d.Extends e) (n : BitVec w) :
    (ifZero n d).Extends (ifZero n e) := by
  unfold ifZero; split
  · exact h
  · exact .same _

theorem decode0100_extends (r rest : List Byte) : (decode0100 rest).Extends (decode0100 (rest ++ r)) := by
  refine withWord_extends (fun a b t => ?_) rest
  dsimp only
  split
  · exact .same _
  · exact .same _
  · exact withLow3_extends (fun _ => with16_extends _ _ _) _
  · refine withLow3_extends (fun _ => ?_) _
    split <;> first | exact .same _ | exact with16_extends _ _ _ | exact with0x24_extends _ _ _
  · refine ifZero_extends (withWord_extends (fun a2 b2 t2 => ?_) t) _
    split
    · refine withLow3_extends (fun _ => ?_) _
      split
      · exact withLow3_extends (fun _ => with0x24_extends _ _ _) _
      · exact with0x24_extends _ _ _
      · exact .same _
    · exact .same _
  · exact .same _

theorem decode0140_extends (r rest : List Byte) : (decode0140 rest).Extends (decode0140 (rest ++ r)) := by
  refine withWord_extends (fun a b t => ?_) rest
  refine ifZero_extends ?_ _
  split
  · exact .same _
  · exact .same _
  · exact with16_extends _ _ _
  · split <;> first | exact .same _ | exact with16_extends _ _ _ | exact with0x24_extends _ _ _
  · refine withWord_extends (fun a2 b2 t2 => ?_) t
    split
    · exact withLow3_extends (fun _ => with0x24_extends _ _ _) _
    · exact with0x24_extends _ _ _
    · exact .same _
  · exact .same _

theorem decode01Arith_extends (p : Byte) (r rest : List Byte) :
    (decode01Arith p rest).Extends (decode01Arith p (rest ++ r)) := withWord_extends (fun _ _ _ => .same _) rest

theorem decode0_extends (l : Nibble) (b : Byte) (r rest : List Byte) :
    (decode0 l b rest).Extends (decode0 l b (rest ++ r)) := by
  unfold decode0
  split <;> first
    | exact .same _
    | (split <;> first
        | exact .same _ | exact decode0100_extends _ _ | exact decode0140_extends _ _ | exact decode01Arith_extends _ _ _)

theorem decode5_extends (l : Nibble) (b : Byte) (r rest : List Byte) :
    (decode5 l b rest).Extends (decode5 l b (rest ++ r)) := by
  unfold decode5
  split <;> first | exact .same _ | exact with16_extends _ _ _ | exact ifZero_extends (with16_extends _ _ _) _

theorem decode6_extends (l : Nibble) (b : Byte) (r rest : List Byte) :
    (decode6 l b rest).Extends (decode6 l b (rest ++ r)) := by
  unfold decode6
  dsimp only
  split <;> first
    | exact .same _
    | exact with16_extends _ _ _
    | (split <;> first | exact .same _ | exact with16_extends _ _ _ | exact with0x24_extends _ _ _)

theorem decode78_extends (n : ErNum) (r rest : List Byte) : (decode78 n rest).Extends (decode78 n (rest ++ r)) := by
  refine withWord_extends (fun a b t => ?_) rest
  dsimp only
  split <;> first | exact .same _ | exact with0x24_extends _ _ _

theorem decode7_extends (l : Nibble) (b : Byte) (r rest : List Byte) :
    (decode7 l b rest).Extends (decode7 l b (rest ++ r)) := by
  unfold decode7
  split <;> first
    | exact .same _
    | exact ifZero_extends (withLow3_extends (fun _ => decode78_extends _ _ _) _) _
    | exact with16_extends _ _ _
    | exact withLow3_extends (fun _ => with32_extends _ _ _) _
    | exact ifZero_extends (withLow3_extends (fun _ => withWord_extends (fun _ _ _ => .same _) _) _) _
    | exact withWord_extends (fun _ _ _ => .same _) _

/-- More bytes change nothing once the decoder has an answer (R144: the length is known before the rest is read). -/
theorem decode_append {l : List Byte} (h : decode l ≠ .short) (r : List Byte) : decode (l ++ r) = decode l := by
  refine withWord_extends (fun b0 b t => ?_) l h
  dsimp only
  split <;> first
    | exact .same _ | exact decode0_extends _ _ _ _ | exact decode5_extends _ _ _ _ | exact decode6_extends _ _ _ _
    | exact decode7_extends _ _ _ _

end Sys2Proof
end

