-- ==== Sys2Proof/Laws/PerInstr.lean ====
section
/-!
SUPPORT. Per instruction: the length rule (spec/30_encoding.md R144) tells, from the first bytes alone, how long the
encoding of the instruction is, whatever follows it and whatever the ignored bit (R150) is; that length is even and
2 to 10 bytes (R111).
-/

namespace Sys2Proof.Laws

/-- The length rule R144 gives the number of bytes of the instruction's encoding, and R111 bounds it. -/
def EncodedLength.Statement (i : Instr) : Prop :=
  ∀ (ign : BitVec 1) (rest : List Byte),
    ∃ n ∈ [2, 4, 6, 8, 10], instrLength (encodeWith ign i ++ rest) = some n ∧ (encodeWith ign i).length = n

theorem EncodedLength.movBImm (imm : Byte) (rd : RegNum) :
    EncodedLength.Statement (.movBImm imm rd) := fun _ _ =>
  ⟨2, by decide, instrLength_two (nibble_first_byte rd (by decide)) _ _, rfl⟩

theorem EncodedLength.movBReg (rs : RegNum) (rd : RegNum) :
    EncodedLength.Statement (.movBReg rs rd) := fun _ _ => ⟨2, by decide, rfl, rfl⟩

theorem EncodedLength.movBLdInd (ers : ErNum) (rd : RegNum) :
    EncodedLength.Statement (.movBLdInd ers rd) := fun _ _ => ⟨2, by decide, rfl, rfl⟩

theorem EncodedLength.movBLdDisp16 (disp : Word) (ers : ErNum) (rd : RegNum) :
    EncodedLength.Statement (.movBLdDisp16 disp ers rd) := fun _ _ => ⟨4, by decide, rfl, rfl⟩

theorem EncodedLength.movBLdDisp24 (disp : BitVec 24) (ers : ErNum) (rd : RegNum) :
    EncodedLength.Statement (.movBLdDisp24 disp ers rd) := fun _ _ => ⟨8, by decide, rfl, rfl⟩

theorem EncodedLength.movBLdInc (ers : ErNum) (rd : RegNum) :
    EncodedLength.Statement (.movBLdInc ers rd) := fun _ _ => ⟨2, by decide, rfl, rfl⟩

theorem EncodedLength.movBLdAbs8 (abs : Byte) (rd : RegNum) :
    EncodedLength.Statement (.movBLdAbs8 abs rd) := fun _ _ =>
  ⟨2, by decide, instrLength_two (nibble_first_byte rd (by decide)) _ _, rfl⟩

theorem EncodedLength.movBLdAbs16 (abs : Word) (rd : RegNum) :
    EncodedLength.Statement (.movBLdAbs16 abs rd) := fun _ _ =>
  ⟨4, by decide, (congrArg (instrLength.absLength 4) (hiNib_append _ _)).trans rfl, rfl⟩

theorem EncodedLength.movBLdAbs24 (abs : BitVec 24) (rd : RegNum) :
    EncodedLength.Statement (.movBLdAbs24 abs rd) := fun _ _ =>
  ⟨6, by decide, (congrArg (instrLength.absLength 4) (hiNib_append _ _)).trans rfl, rfl⟩

theorem EncodedLength.movBStInd (rs : RegNum) (erd : ErNum) :
    EncodedLength.Statement (.movBStInd rs erd) := fun _ _ => ⟨2, by decide, rfl, rfl⟩

theorem EncodedLength.movBStDisp16 (rs : RegNum) (disp : Word) (erd : ErNum) :
    EncodedLength.Statement (.movBStDisp16 rs disp erd) := fun _ _ => ⟨4, by decide, rfl, rfl⟩

theorem EncodedLength.movBStDisp24 (rs : RegNum) (disp : BitVec 24) (erd : ErNum) :
    EncodedLength.Statement (.movBStDisp24 rs disp erd) := fun _ _ => ⟨8, by decide, rfl, rfl⟩

theorem EncodedLength.movBStDec (rs : RegNum) (erd : ErNum) :
    EncodedLength.Statement (.movBStDec rs erd) := fun _ _ => ⟨2, by decide, rfl, rfl⟩

theorem EncodedLength.movBStAbs8 (rs : RegNum) (abs : Byte) :
    EncodedLength.Statement (.movBStAbs8 rs abs) := fun _ _ =>
  ⟨2, by decide, instrLength_two (nibble_first_byte rs (by decide)) _ _, rfl⟩

theorem EncodedLength.movBStAbs16 (rs : RegNum) (abs : Word) :
    EncodedLength.Statement (.movBStAbs16 rs abs) := fun _ _ =>
  ⟨4, by decide, (congrArg (instrLength.absLength 4) (hiNib_append _ _)).trans rfl, rfl⟩

theorem EncodedLength.movBStAbs24 (rs : RegNum) (abs : BitVec 24) :
    EncodedLength.Statement (.movBStAbs24 rs abs) := fun _ _ =>
  ⟨6, by decide, (congrArg (instrLength.absLength 4) (hiNib_append _ _)).trans rfl, rfl⟩

theorem EncodedLength.movWImm (imm : Word) (rd : RegNum) :
    EncodedLength.Statement (.movWImm imm rd) := fun _ _ => ⟨4, by decide, rfl, rfl⟩

theorem EncodedLength.movWReg (rs : RegNum) (rd : RegNum) :
    EncodedLength.Statement (.movWReg rs rd) := fun _ _ => ⟨2, by decide, rfl, rfl⟩

theorem EncodedLength.movWLdInd (ers : ErNum) (rd : RegNum) :
    EncodedLength.Statement (.movWLdInd ers rd) := fun _ _ => ⟨2, by decide, rfl, rfl⟩

theorem EncodedLength.movWLdDisp16 (disp : Word) (ers : ErNum) (rd : RegNum) :
    EncodedLength.Statement (.movWLdDisp16 disp ers rd) := fun _ _ => ⟨4, by decide, rfl, rfl⟩

theorem EncodedLength.movWLdDisp24 (disp : BitVec 24) (ers : ErNum) (rd : RegNum) :
    EncodedLength.Statement (.movWLdDisp24 disp ers rd) := fun _ _ => ⟨8, by decide, rfl, rfl⟩

theorem EncodedLength.movWLdInc (ers : ErNum) (rd : RegNum) :
    EncodedLength.Statement (.movWLdInc ers rd) := fun _ _ => ⟨2, by decide, rfl, rfl⟩

theorem EncodedLength.movWLdAbs16 (abs : Word) (rd : RegNum) :
    EncodedLength.Statement (.movWLdAbs16 abs rd) := fun _ _ =>
  ⟨4, by decide, (congrArg (instrLength.absLength 4) (hiNib_append _ _)).trans rfl, rfl⟩

theorem EncodedLength.movWLdAbs24 (abs : BitVec 24) (rd : RegNum) :
    EncodedLength.Statement (.movWLdAbs24 abs rd) := fun _ _ =>
  ⟨6, by decide, (congrArg (instrLength.absLength 4) (hiNib_append _ _)).trans rfl, rfl⟩

theorem EncodedLength.movWStInd (rs : RegNum) (erd : ErNum) :
    EncodedLength.Statement (.movWStInd rs erd) := fun _ _ => ⟨2, by decide, rfl, rfl⟩

theorem EncodedLength.movWStDisp16 (rs : RegNum) (disp : Word) (erd : ErNum) :
    EncodedLength.Statement (.movWStDisp16 rs disp erd) := fun _ _ => ⟨4, by decide, rfl, rfl⟩

theorem EncodedLength.movWStDisp24 (rs : RegNum) (disp : BitVec 24) (erd : ErNum) :
    EncodedLength.Statement (.movWStDisp24 rs disp erd) := fun _ _ => ⟨8, by decide, rfl, rfl⟩

theorem EncodedLength.movWStDec (rs : RegNum) (erd : ErNum) :
    EncodedLength.Statement (.movWStDec rs erd) := fun _ _ => ⟨2, by decide, rfl, rfl⟩

theorem EncodedLength.movWStAbs16 (rs : RegNum) (abs : Word) :
    EncodedLength.Statement (.movWStAbs16 rs abs) := fun _ _ =>
  ⟨4, by decide, (congrArg (instrLength.absLength 4) (hiNib_append _ _)).trans rfl, rfl⟩

theorem EncodedLength.movWStAbs24 (rs : RegNum) (abs : BitVec 24) :
    EncodedLength.Statement (.movWStAbs24 rs abs) := fun _ _ =>
  ⟨6, by decide, (congrArg (instrLength.absLength 4) (hiNib_append _ _)).trans rfl, rfl⟩

theorem EncodedLength.movLImm (imm : Long) (erd : ErNum) :
    EncodedLength.Statement (.movLImm imm erd) := fun _ _ => ⟨6, by decide, rfl, rfl⟩

theorem EncodedLength.movLReg (ers : ErNum) (erd : ErNum) :
    EncodedLength.Statement (.movLReg ers erd) := fun _ _ => ⟨2, by decide, rfl, rfl⟩

theorem EncodedLength.movLLdInd (ers : ErNum) (erd : ErNum) :
    EncodedLength.Statement (.movLLdInd ers erd) := fun _ _ => ⟨4, by decide, rfl, rfl⟩

theorem EncodedLength.movLLdDisp16 (disp : Word) (ers : ErNum) (erd : ErNum) :
    EncodedLength.Statement (.movLLdDisp16 disp ers erd) := fun _ _ => ⟨6, by decide, rfl, rfl⟩

theorem EncodedLength.movLLdDisp24 (disp : BitVec 24) (ers : ErNum) (erd : ErNum) :
    EncodedLength.Statement (.movLLdDisp24 disp ers erd) := fun _ _ => ⟨10, by decide, rfl, rfl⟩

theorem EncodedLength.movLLdInc (ers : ErNum) (erd : ErNum) :
    EncodedLength.Statement (.movLLdInc ers erd) := fun _ _ => ⟨4, by decide, rfl, rfl⟩

theorem EncodedLength.movLLdAbs16 (abs : Word) (erd : ErNum) :
    EncodedLength.Statement (.movLLdAbs16 abs erd) := fun _ _ =>
  ⟨6, by decide, (congrArg (instrLength.absLength 6) (hiNib_append _ _)).trans rfl, rfl⟩

theorem EncodedLength.movLLdAbs24 (abs : BitVec 24) (erd : ErNum) :
    EncodedLength.Statement (.movLLdAbs24 abs erd) := fun _ _ =>
  ⟨8, by decide, (congrArg (instrLength.absLength 6) (hiNib_append _ _)).trans rfl, rfl⟩

theorem EncodedLength.movLStInd (ers : ErNum) (erd : ErNum) :
    EncodedLength.Statement (.movLStInd ers erd) := fun _ _ => ⟨4, by decide, rfl, rfl⟩

theorem EncodedLength.movLStDisp16 (ers : ErNum) (disp : Word) (erd : ErNum) :
    EncodedLength.Statement (.movLStDisp16 ers disp erd) := fun _ _ => ⟨6, by decide, rfl, rfl⟩

theorem EncodedLength.movLStDisp24 (ers : ErNum) (disp : BitVec 24) (erd : ErNum) :
    EncodedLength.Statement (.movLStDisp24 ers disp erd) := fun _ _ => ⟨10, by decide, rfl, rfl⟩

theorem EncodedLength.movLStDec (ers : ErNum) (erd : ErNum) :
    EncodedLength.Statement (.movLStDec ers erd) := fun _ _ => ⟨4, by decide, rfl, rfl⟩

theorem EncodedLength.movLStAbs16 (ers : ErNum) (abs : Word) :
    EncodedLength.Statement (.movLStAbs16 ers abs) := fun _ _ =>
  ⟨6, by decide, (congrArg (instrLength.absLength 6) (hiNib_append _ _)).trans rfl, rfl⟩

theorem EncodedLength.movLStAbs24 (ers : ErNum) (abs : BitVec 24) :
    EncodedLength.Statement (.movLStAbs24 ers abs) := fun _ _ =>
  ⟨8, by decide, (congrArg (instrLength.absLength 6) (hiNib_append _ _)).trans rfl, rfl⟩

theorem EncodedLength.pushW (rn : RegNum) :
    EncodedLength.Statement (.pushW rn) := fun _ _ => ⟨2, by decide, rfl, rfl⟩

theorem EncodedLength.pushL (ern : ErNum) :
    EncodedLength.Statement (.pushL ern) := fun _ _ => ⟨4, by decide, rfl, rfl⟩

theorem EncodedLength.popW (rn : RegNum) :
    EncodedLength.Statement (.popW rn) := fun _ _ => ⟨2, by decide, rfl, rfl⟩

theorem EncodedLength.popL (ern : ErNum) :
    EncodedLength.Statement (.popL ern) := fun _ _ => ⟨4, by decide, rfl, rfl⟩

theorem EncodedLength.addBImm (imm : Byte) (rd : RegNum) :
    EncodedLength.Statement (.addBImm imm rd) := fun _ _ =>
  ⟨2, by decide, instrLength_two (nibble_first_byte rd (by decide)) _ _, rfl⟩

theorem EncodedLength.addBReg (rs : RegNum) (rd : RegNum) :
    EncodedLength.Statement (.addBReg rs rd) := fun _ _ => ⟨2, by decide, rfl, rfl⟩

theorem EncodedLength.addWImm (imm : Word) (rd : RegNum) :
    EncodedLength.Statement (.addWImm imm rd) := fun _ _ => ⟨4, by decide, rfl, rfl⟩

theorem EncodedLength.addWReg (rs : RegNum) (rd : RegNum) :
    EncodedLength.Statement (.addWReg rs rd) := fun _ _ => ⟨2, by decide, rfl, rfl⟩

theorem EncodedLength.addLImm (imm : Long) (erd : ErNum) :
    EncodedLength.Statement (.addLImm imm erd) := fun _ _ => ⟨6, by decide, rfl, rfl⟩

theorem EncodedLength.addLReg (ers : ErNum) (erd : ErNum) :
    EncodedLength.Statement (.addLReg ers erd) := fun _ _ => ⟨2, by decide, rfl, rfl⟩

theorem EncodedLength.subBReg (rs : RegNum) (rd : RegNum) :
    EncodedLength.Statement (.subBReg rs rd) := fun _ _ => ⟨2, by decide, rfl, rfl⟩

theorem EncodedLength.subWImm (imm : Word) (rd : RegNum) :
    EncodedLength.Statement (.subWImm imm rd) := fun _ _ => ⟨4, by decide, rfl, rfl⟩

theorem EncodedLength.subWReg (rs : RegNum) (rd : RegNum) :
    EncodedLength.Statement (.subWReg rs rd) := fun _ _ => ⟨2, by decide, rfl, rfl⟩

theorem EncodedLength.subLImm (imm : Long) (erd : ErNum) :
    EncodedLength.Statement (.subLImm imm erd) := fun _ _ => ⟨6, by decide, rfl, rfl⟩

theorem EncodedLength.subLReg (ers : ErNum) (erd : ErNum) :
    EncodedLength.Statement (.subLReg ers erd) := fun _ _ => ⟨2, by decide, rfl, rfl⟩

theorem EncodedLength.addxBImm (imm : Byte) (rd : RegNum) :
    EncodedLength.Statement (.addxBImm imm rd) := fun _ _ =>
  ⟨2, by decide, instrLength_two (nibble_first_byte rd (by decide)) _ _, rfl⟩

theorem EncodedLength.addxBReg (rs : RegNum) (rd : RegNum) :
    EncodedLength.Statement (.addxBReg rs rd) := fun _ _ => ⟨2, by decide, rfl, rfl⟩

theorem EncodedLength.subxBImm (imm : Byte) (rd : RegNum) :
    EncodedLength.Statement (.subxBImm imm rd) := fun _ _ =>
  ⟨2, by decide, instrLength_two (nibble_first_byte rd (by decide)) _ _, rfl⟩

theorem EncodedLength.subxBReg (rs : RegNum) (rd : RegNum) :
    EncodedLength.Statement (.subxBReg rs rd) := fun _ _ => ⟨2, by decide, rfl, rfl⟩

theorem EncodedLength.incB (rd : RegNum) :
    EncodedLength.Statement (.incB rd) := fun _ _ => ⟨2, by decide, rfl, rfl⟩

theorem EncodedLength.incW1 (rd : RegNum) :
    EncodedLength.Statement (.incW1 rd) := fun _ _ => ⟨2, by decide, rfl, rfl⟩

theorem EncodedLength.incW2 (rd : RegNum) :
    EncodedLength.Statement (.incW2 rd) := fun _ _ => ⟨2, by decide, rfl, rfl⟩

theorem EncodedLength.incL1 (erd : ErNum) :
    EncodedLength.Statement (.incL1 erd) := fun _ _ => ⟨2, by decide, rfl, rfl⟩

theorem EncodedLength.incL2 (erd : ErNum) :
    EncodedLength.Statement (.incL2 erd) := fun _ _ => ⟨2, by decide, rfl, rfl⟩

theorem EncodedLength.decB (rd : RegNum) :
    EncodedLength.Statement (.decB rd) := fun _ _ => ⟨2, by decide, rfl, rfl⟩

theorem EncodedLength.decW1 (rd : RegNum) :
    EncodedLength.Statement (.decW1 rd) := fun _ _ => ⟨2, by decide, rfl, rfl⟩

theorem EncodedLength.decW2 (rd : RegNum) :
    EncodedLength.Statement (.decW2 rd) := fun _ _ => ⟨2, by decide, rfl, rfl⟩

theorem EncodedLength.decL1 (erd : ErNum) :
    EncodedLength.Statement (.decL1 erd) := fun _ _ => ⟨2, by decide, rfl, rfl⟩

theorem EncodedLength.decL2 (erd : ErNum) :
    EncodedLength.Statement (.decL2 erd) := fun _ _ => ⟨2, by decide, rfl, rfl⟩

theorem EncodedLength.adds1 (erd : ErNum) :
    EncodedLength.Statement (.adds1 erd) := fun _ _ => ⟨2, by decide, rfl, rfl⟩

theorem EncodedLength.adds2 (erd : ErNum) :
    EncodedLength.Statement (.adds2 erd) := fun _ _ => ⟨2, by decide, rfl, rfl⟩

theorem EncodedLength.adds4 (erd : ErNum) :
    EncodedLength.Statement (.adds4 erd) := fun _ _ => ⟨2, by decide, rfl, rfl⟩

theorem EncodedLength.subs1 (erd : ErNum) :
    EncodedLength.Statement (.subs1 erd) := fun _ _ => ⟨2, by decide, rfl, rfl⟩

theorem EncodedLength.subs2 (erd : ErNum) :
    EncodedLength.Statement (.subs2 erd) := fun _ _ => ⟨2, by decide, rfl, rfl⟩

theorem EncodedLength.subs4 (erd : ErNum) :
    EncodedLength.Statement (.subs4 erd) := fun _ _ => ⟨2, by decide, rfl, rfl⟩

theorem EncodedLength.daa (rd : RegNum) :
    EncodedLength.Statement (.daa rd) := fun _ _ => ⟨2, by decide, rfl, rfl⟩

theorem EncodedLength.das (rd : RegNum) :
    EncodedLength.Statement (.das rd) := fun _ _ => ⟨2, by decide, rfl, rfl⟩

theorem EncodedLength.mulxuB (rs : RegNum) (rd : RegNum) :
    EncodedLength.Statement (.mulxuB rs rd) := fun _ _ => ⟨2, by decide, rfl, rfl⟩

theorem EncodedLength.mulxuW (rs : RegNum) (erd : ErNum) :
    EncodedLength.Statement (.mulxuW rs erd) := fun _ _ => ⟨2, by decide, rfl, rfl⟩

theorem EncodedLength.divxuB (rs : RegNum) (rd : RegNum) :
    EncodedLength.Statement (.divxuB rs rd) := fun _ _ => ⟨2, by decide, rfl, rfl⟩

theorem EncodedLength.divxuW (rs : RegNum) (erd : ErNum) :
    EncodedLength.Statement (.divxuW rs erd) := fun _ _ => ⟨2, by decide, rfl, rfl⟩

theorem EncodedLength.mulxsB (rs : RegNum) (rd : RegNum) :
    EncodedLength.Statement (.mulxsB rs rd) := fun _ _ => ⟨4, by decide, rfl, rfl⟩

theorem EncodedLength.mulxsW (rs : RegNum) (erd : ErNum) :
    EncodedLength.Statement (.mulxsW rs erd) := fun _ _ => ⟨4, by decide, rfl, rfl⟩

theorem EncodedLength.divxsB (rs : RegNum) (rd : RegNum) :
    EncodedLength.Statement (.divxsB rs rd) := fun _ _ => ⟨4, by decide, rfl, rfl⟩

theorem EncodedLength.divxsW (rs : RegNum) (erd : ErNum) :
    EncodedLength.Statement (.divxsW rs erd) := fun _ _ => ⟨4, by decide, rfl, rfl⟩

theorem EncodedLength.cmpBImm (imm : Byte) (rd : RegNum) :
    EncodedLength.Statement (.cmpBImm imm rd) := fun _ _ =>
  ⟨2, by decide, instrLength_two (nibble_first_byte rd (by decide)) _ _, rfl⟩

theorem EncodedLength.cmpBReg (rs : RegNum) (rd : RegNum) :
    EncodedLength.Statement (.cmpBReg rs rd) := fun _ _ => ⟨2, by decide, rfl, rfl⟩

theorem EncodedLength.cmpWImm (imm : Word) (rd : RegNum) :
    EncodedLength.Statement (.cmpWImm imm rd) := fun _ _ => ⟨4, by decide, rfl, rfl⟩

theorem EncodedLength.cmpWReg (rs : RegNum) (rd : RegNum) :
    EncodedLength.Statement (.cmpWReg rs rd) := fun _ _ => ⟨2, by decide, rfl, rfl⟩

theorem EncodedLength.cmpLImm (imm : Long) (erd : ErNum) :
    EncodedLength.Statement (.cmpLImm imm erd) := fun _ _ => ⟨6, by decide, rfl, rfl⟩

theorem EncodedLength.cmpLReg (ers : ErNum) (erd : ErNum) :
    EncodedLength.Statement (.cmpLReg ers erd) := fun _ _ => ⟨2, by decide, rfl, rfl⟩

theorem EncodedLength.negB (rd : RegNum) :
    EncodedLength.Statement (.negB rd) := fun _ _ => ⟨2, by decide, rfl, rfl⟩

theorem EncodedLength.negW (rd : RegNum) :
    EncodedLength.Statement (.negW rd) := fun _ _ => ⟨2, by decide, rfl, rfl⟩

theorem EncodedLength.negL (erd : ErNum) :
    EncodedLength.Statement (.negL erd) := fun _ _ => ⟨2, by decide, rfl, rfl⟩

theorem EncodedLength.extuW (rd : RegNum) :
    EncodedLength.Statement (.extuW rd) := fun _ _ => ⟨2, by decide, rfl, rfl⟩

theorem EncodedLength.extuL (erd : ErNum) :
    EncodedLength.Statement (.extuL erd) := fun _ _ => ⟨2, by decide, rfl, rfl⟩

theorem EncodedLength.extsW (rd : RegNum) :
    EncodedLength.Statement (.extsW rd) := fun _ _ => ⟨2, by decide, rfl, rfl⟩

theorem EncodedLength.extsL (erd : ErNum) :
    EncodedLength.Statement (.extsL erd) := fun _ _ => ⟨2, by decide, rfl, rfl⟩

theorem EncodedLength.andBImm (imm : Byte) (rd : RegNum) :
    EncodedLength.Statement (.andBImm imm rd) := fun _ _ =>
  ⟨2, by decide, instrLength_two (nibble_first_byte rd (by decide)) _ _, rfl⟩

theorem EncodedLength.andBReg (rs : RegNum) (rd : RegNum) :
    EncodedLength.Statement (.andBReg rs rd) := fun _ _ => ⟨2, by decide, rfl, rfl⟩

theorem EncodedLength.andWImm (imm : Word) (rd : RegNum) :
    EncodedLength.Statement (.andWImm imm rd) := fun _ _ => ⟨4, by decide, rfl, rfl⟩

theorem EncodedLength.andWReg (rs : RegNum) (rd : RegNum) :
    EncodedLength.Statement (.andWReg rs rd) := fun _ _ => ⟨2, by decide, rfl, rfl⟩

theorem EncodedLength.andLImm (imm : Long) (erd : ErNum) :
    EncodedLength.Statement (.andLImm imm erd) := fun _ _ => ⟨6, by decide, rfl, rfl⟩

theorem EncodedLength.andLReg (ers : ErNum) (erd : ErNum) :
    EncodedLength.Statement (.andLReg ers erd) := fun _ _ => ⟨4, by decide, rfl, rfl⟩

theorem EncodedLength.orBImm (imm : Byte) (rd : RegNum) :
    EncodedLength.Statement (.orBImm imm rd) := fun _ _ =>
  ⟨2, by decide, instrLength_two (nibble_first_byte rd (by decide)) _ _, rfl⟩

theorem EncodedLength.orBReg (rs : RegNum) (rd : RegNum) :
    EncodedLength.Statement (.orBReg rs rd) := fun _ _ => ⟨2, by decide, rfl, rfl⟩

theorem EncodedLength.orWImm (imm : Word) (rd : RegNum) :
    EncodedLength.Statement (.orWImm imm rd) := fun _ _ => ⟨4, by decide, rfl, rfl⟩

theorem EncodedLength.orWReg (rs : RegNum) (rd : RegNum) :
    EncodedLength.Statement (.orWReg rs rd) := fun _ _ => ⟨2, by decide, rfl, rfl⟩

theorem EncodedLength.orLImm (imm : Long) (erd : ErNum) :
    EncodedLength.Statement (.orLImm imm erd) := fun _ _ => ⟨6, by decide, rfl, rfl⟩

theorem EncodedLength.orLReg (ers : ErNum) (erd : ErNum) :
    EncodedLength.Statement (.orLReg ers erd) := fun _ _ => ⟨4, by decide, rfl, rfl⟩

theorem EncodedLength.xorBImm (imm : Byte) (rd : RegNum) :
    EncodedLength.Statement (.xorBImm imm rd) := fun _ _ =>
  ⟨2, by decide, instrLength_two (nibble_first_byte rd (by decide)) _ _, rfl⟩

theorem EncodedLength.xorBReg (rs : RegNum) (rd : RegNum) :
    EncodedLength.Statement (.xorBReg rs rd) := fun _ _ => ⟨2, by decide, rfl, rfl⟩

theorem EncodedLength.xorWImm (imm : Word) (rd : RegNum) :
    EncodedLength.Statement (.xorWImm imm rd) := fun _ _ => ⟨4, by decide, rfl, rfl⟩

theorem EncodedLength.xorWReg (rs : RegNum) (rd : RegNum) :
    EncodedLength.Statement (.xorWReg rs rd) := fun _ _ => ⟨2, by decide, rfl, rfl⟩

theorem EncodedLength.xorLImm (imm : Long) (erd : ErNum) :
    EncodedLength.Statement (.xorLImm imm erd) := fun _ _ => ⟨6, by decide, rfl, rfl⟩

theorem EncodedLength.xorLReg (ers : ErNum) (erd : ErNum) :
    EncodedLength.Statement (.xorLReg ers erd) := fun _ _ => ⟨4, by decide, rfl, rfl⟩

theorem EncodedLength.notB (rd : RegNum) :
    EncodedLength.Statement (.notB rd) := fun _ _ => ⟨2, by decide, rfl, rfl⟩

theorem EncodedLength.notW (rd : RegNum) :
    EncodedLength.Statement (.notW rd) := fun _ _ => ⟨2, by decide, rfl, rfl⟩

theorem EncodedLength.notL (erd : ErNum) :
    EncodedLength.Statement (.notL erd) := fun _ _ => ⟨2, by decide, rfl, rfl⟩

theorem EncodedLength.shalB (rd : RegNum) :
    EncodedLength.Statement (.shalB rd) := fun _ _ => ⟨2, by decide, rfl, rfl⟩

theorem EncodedLength.shalW (rd : RegNum) :
    EncodedLength.Statement (.shalW rd) := fun _ _ => ⟨2, by decide, rfl, rfl⟩

theorem EncodedLength.shalL (erd : ErNum) :
    EncodedLength.Statement (.shalL erd) := fun _ _ => ⟨2, by decide, rfl, rfl⟩

theorem EncodedLength.sharB (rd : RegNum) :
    EncodedLength.Statement (.sharB rd) := fun _ _ => ⟨2, by decide, rfl, rfl⟩

theorem EncodedLength.sharW (rd : RegNum) :
    EncodedLength.Statement (.sharW rd) := fun _ _ => ⟨2, by decide, rfl, rfl⟩

theorem EncodedLength.sharL (erd : ErNum) :
    EncodedLength.Statement (.sharL erd) := fun _ _ => ⟨2, by decide, rfl, rfl⟩

theorem EncodedLength.shllB (rd : RegNum) :
    EncodedLength.Statement (.shllB rd) := fun _ _ => ⟨2, by decide, rfl, rfl⟩

theorem EncodedLength.shllW (rd : RegNum) :
    EncodedLength.Statement (.shllW rd) := fun _ _ => ⟨2, by decide, rfl, rfl⟩

theorem EncodedLength.shllL (erd : ErNum) :
    EncodedLength.Statement (.shllL erd) := fun _ _ => ⟨2, by decide, rfl, rfl⟩

theorem EncodedLength.shlrB (rd : RegNum) :
    EncodedLength.Statement (.shlrB rd) := fun _ _ => ⟨2, by decide, rfl, rfl⟩

theorem EncodedLength.shlrW (rd : RegNum) :
    EncodedLength.Statement (.shlrW rd) := fun _ _ => ⟨2, by decide, rfl, rfl⟩

theorem EncodedLength.shlrL (erd : ErNum) :
    EncodedLength.Statement (.shlrL erd) := fun _ _ => ⟨2, by decide, rfl, rfl⟩

theorem EncodedLength.rotlB (rd : RegNum) :
    EncodedLength.Statement (.rotlB rd) := fun _ _ => ⟨2, by decide, rfl, rfl⟩

theorem EncodedLength.rotlW (rd : RegNum) :
    EncodedLength.Statement (.rotlW rd) := fun _ _ => ⟨2, by decide, rfl, rfl⟩

theorem EncodedLength.rotlL (erd : ErNum) :
    EncodedLength.Statement (.rotlL erd) := fun _ _ => ⟨2, by decide, rfl, rfl⟩

theorem EncodedLength.rotrB (rd : RegNum) :
    EncodedLength.Statement (.rotrB rd) := fun _ _ => ⟨2, by decide, rfl, rfl⟩

theorem EncodedLength.rotrW (rd : RegNum) :
    EncodedLength.Statement (.rotrW rd) := fun _ _ => ⟨2, by decide, rfl, rfl⟩

theorem EncodedLength.rotrL (erd : ErNum) :
    EncodedLength.Statement (.rotrL erd) := fun _ _ => ⟨2, by decide, rfl, rfl⟩

theorem EncodedLength.rotxlB (rd : RegNum) :
    EncodedLength.Statement (.rotxlB rd) := fun _ _ => ⟨2, by decide, rfl, rfl⟩

theorem EncodedLength.rotxlW (rd : RegNum) :
    EncodedLength.Statement (.rotxlW rd) := fun _ _ => ⟨2, by decide, rfl, rfl⟩

theorem EncodedLength.rotxlL (erd : ErNum) :
    EncodedLength.Statement (.rotxlL erd) := fun _ _ => ⟨2, by decide, rfl, rfl⟩

theorem EncodedLength.rotxrB (rd : RegNum) :
    EncodedLength.Statement (.rotxrB rd) := fun _ _ => ⟨2, by decide, rfl, rfl⟩

theorem EncodedLength.rotxrW (rd : RegNum) :
    EncodedLength.Statement (.rotxrW rd) := fun _ _ => ⟨2, by decide, rfl, rfl⟩

theorem EncodedLength.rotxrL (erd : ErNum) :
    EncodedLength.Statement (.rotxrL erd) := fun _ _ => ⟨2, by decide, rfl, rfl⟩

theorem EncodedLength.bsetImmReg (bit : BitVec 3) (rd : RegNum) :
    EncodedLength.Statement (.bsetImmReg bit rd) := fun _ _ => ⟨2, by decide, rfl, rfl⟩

theorem EncodedLength.bsetImmInd (bit : BitVec 3) (erd : ErNum) :
    EncodedLength.Statement (.bsetImmInd bit erd) := fun _ _ => ⟨4, by decide, rfl, rfl⟩

theorem EncodedLength.bsetImmAbs8 (bit : BitVec 3) (abs : Byte) :
    EncodedLength.Statement (.bsetImmAbs8 bit abs) := fun _ _ => ⟨4, by decide, rfl, rfl⟩

theorem EncodedLength.bsetRnReg (rn : RegNum) (rd : RegNum) :
    EncodedLength.Statement (.bsetRnReg rn rd) := fun _ _ => ⟨2, by decide, rfl, rfl⟩

theorem EncodedLength.bsetRnInd (rn : RegNum) (erd : ErNum) :
    EncodedLength.Statement (.bsetRnInd rn erd) := fun _ _ => ⟨4, by decide, rfl, rfl⟩

theorem EncodedLength.bsetRnAbs8 (rn : RegNum) (abs : Byte) :
    EncodedLength.Statement (.bsetRnAbs8 rn abs) := fun _ _ => ⟨4, by decide, rfl, rfl⟩

theorem EncodedLength.bclrImmReg (bit : BitVec 3) (rd : RegNum) :
    EncodedLength.Statement (.bclrImmReg bit rd) := fun _ _ => ⟨2, by decide, rfl, rfl⟩

theorem EncodedLength.bclrImmInd (bit : BitVec 3) (erd : ErNum) :
    EncodedLength.Statement (.bclrImmInd bit erd) := fun _ _ => ⟨4, by decide, rfl, rfl⟩

theorem EncodedLength.bclrImmAbs8 (bit : BitVec 3) (abs : Byte) :
    EncodedLength.Statement (.bclrImmAbs8 bit abs) := fun _ _ => ⟨4, by decide, rfl, rfl⟩

theorem EncodedLength.bclrRnReg (rn : RegNum) (rd : RegNum) :
    EncodedLength.Statement (.bclrRnReg rn rd) := fun _ _ => ⟨2, by decide, rfl, rfl⟩

theorem EncodedLength.bclrRnInd (rn : RegNum) (erd : ErNum) :
    EncodedLength.Statement (.bclrRnInd rn erd) := fun _ _ => ⟨4, by decide, rfl, rfl⟩

theorem EncodedLength.bclrRnAbs8 (rn : RegNum) (abs : Byte) :
    EncodedLength.Statement (.bclrRnAbs8 rn abs) := fun _ _ => ⟨4, by decide, rfl, rfl⟩

theorem EncodedLength.bnotImmReg (bit : BitVec 3) (rd : RegNum) :
    EncodedLength.Statement (.bnotImmReg bit rd) := fun _ _ => ⟨2, by decide, rfl, rfl⟩

theorem EncodedLength.bnotImmInd (bit : BitVec 3) (erd : ErNum) :
    EncodedLength.Statement (.bnotImmInd bit erd) := fun _ _ => ⟨4, by decide, rfl, rfl⟩

theorem EncodedLength.bnotImmAbs8 (bit : BitVec 3) (abs : Byte) :
    EncodedLength.Statement (.bnotImmAbs8 bit abs) := fun _ _ => ⟨4, by decide, rfl, rfl⟩

theorem EncodedLength.bnotRnReg (rn : RegNum) (rd : RegNum) :
    EncodedLength.Statement (.bnotRnReg rn rd) := fun _ _ => ⟨2, by decide, rfl, rfl⟩

theorem EncodedLength.bnotRnInd (rn : RegNum) (erd : ErNum) :
    EncodedLength.Statement (.bnotRnInd rn erd) := fun _ _ => ⟨4, by decide, rfl, rfl⟩

theorem EncodedLength.bnotRnAbs8 (rn : RegNum) (abs : Byte) :
    EncodedLength.Statement (.bnotRnAbs8 rn abs) := fun _ _ => ⟨4, by decide, rfl, rfl⟩

theorem EncodedLength.btstImmReg (bit : BitVec 3) (rd : RegNum) :
    EncodedLength.Statement (.btstImmReg bit rd) := fun _ _ => ⟨2, by decide, rfl, rfl⟩

theorem EncodedLength.btstImmInd (bit : BitVec 3) (erd : ErNum) :
    EncodedLength.Statement (.btstImmInd bit erd) := fun _ _ => ⟨4, by decide, rfl, rfl⟩

theorem EncodedLength.btstImmAbs8 (bit : BitVec 3) (abs : Byte) :
    EncodedLength.Statement (.btstImmAbs8 bit abs) := fun _ _ => ⟨4, by decide, rfl, rfl⟩

theorem EncodedLength.btstRnReg (rn : RegNum) (rd : RegNum) :
    EncodedLength.Statement (.btstRnReg rn rd) := fun _ _ => ⟨2, by decide, rfl, rfl⟩

theorem EncodedLength.btstRnInd (rn : RegNum) (erd : ErNum) :
    EncodedLength.Statement (.btstRnInd rn erd) := fun _ _ => ⟨4, by decide, rfl, rfl⟩

theorem EncodedLength.btstRnAbs8 (rn : RegNum) (abs : Byte) :
    EncodedLength.Statement (.btstRnAbs8 rn abs) := fun _ _ => ⟨4, by decide, rfl, rfl⟩

theorem EncodedLength.bandReg (bit : BitVec 3) (rd : RegNum) :
    EncodedLength.Statement (.bandReg bit rd) := fun _ _ => ⟨2, by decide, rfl, rfl⟩

theorem EncodedLength.bandInd (bit : BitVec 3) (erd : ErNum) :
    EncodedLength.Statement (.bandInd bit erd) := fun _ _ => ⟨4, by decide, rfl, rfl⟩

theorem EncodedLength.bandAbs8 (bit : BitVec 3) (abs : Byte) :
    EncodedLength.Statement (.bandAbs8 bit abs) := fun _ _ => ⟨4, by decide, rfl, rfl⟩

theorem EncodedLength.biandReg (bit : BitVec 3) (rd : RegNum) :
    EncodedLength.Statement (.biandReg bit rd) := fun _ _ => ⟨2, by decide, rfl, rfl⟩

theorem EncodedLength.biandInd (bit : BitVec 3) (erd : ErNum) :
    EncodedLength.Statement (.biandInd bit erd) := fun _ _ => ⟨4, by decide, rfl, rfl⟩

theorem EncodedLength.biandAbs8 (bit : BitVec 3) (abs : Byte) :
    EncodedLength.Statement (.biandAbs8 bit abs) := fun _ _ => ⟨4, by decide, rfl, rfl⟩

theorem EncodedLength.borReg (bit : BitVec 3) (rd : RegNum) :
    EncodedLength.Statement (.borReg bit rd) := fun _ _ => ⟨2, by decide, rfl, rfl⟩

theorem EncodedLength.borInd (bit : BitVec 3) (erd : ErNum) :
    EncodedLength.Statement (.borInd bit erd) := fun _ _ => ⟨4, by decide, rfl, rfl⟩

theorem EncodedLength.borAbs8 (bit : BitVec 3) (abs : Byte) :
    EncodedLength.Statement (.borAbs8 bit abs) := fun _ _ => ⟨4, by decide, rfl, rfl⟩

theorem EncodedLength.biorReg (bit : BitVec 3) (rd : RegNum) :
    EncodedLength.Statement (.biorReg bit rd) := fun _ _ => ⟨2, by decide, rfl, rfl⟩

theorem EncodedLength.biorInd (bit : BitVec 3) (erd : ErNum) :
    EncodedLength.Statement (.biorInd bit erd) := fun _ _ => ⟨4, by decide, rfl, rfl⟩

theorem EncodedLength.biorAbs8 (bit : BitVec 3) (abs : Byte) :
    EncodedLength.Statement (.biorAbs8 bit abs) := fun _ _ => ⟨4, by decide, rfl, rfl⟩

theorem EncodedLength.bxorReg (bit : BitVec 3) (rd : RegNum) :
    EncodedLength.Statement (.bxorReg bit rd) := fun _ _ => ⟨2, by decide, rfl, rfl⟩

theorem EncodedLength.bxorInd (bit : BitVec 3) (erd : ErNum) :
    EncodedLength.Statement (.bxorInd bit erd) := fun _ _ => ⟨4, by decide, rfl, rfl⟩

theorem EncodedLength.bxorAbs8 (bit : BitVec 3) (abs : Byte) :
    EncodedLength.Statement (.bxorAbs8 bit abs) := fun _ _ => ⟨4, by decide, rfl, rfl⟩

theorem EncodedLength.bixorReg (bit : BitVec 3) (rd : RegNum) :
    EncodedLength.Statement (.bixorReg bit rd) := fun _ _ => ⟨2, by decide, rfl, rfl⟩

theorem EncodedLength.bixorInd (bit : BitVec 3) (erd : ErNum) :
    EncodedLength.Statement (.bixorInd bit erd) := fun _ _ => ⟨4, by decide, rfl, rfl⟩

theorem EncodedLength.bixorAbs8 (bit : BitVec 3) (abs : Byte) :
    EncodedLength.Statement (.bixorAbs8 bit abs) := fun _ _ => ⟨4, by decide, rfl, rfl⟩

theorem EncodedLength.bldReg (bit : BitVec 3) (rd : RegNum) :
    EncodedLength.Statement (.bldReg bit rd) := fun _ _ => ⟨2, by decide, rfl, rfl⟩

theorem EncodedLength.bldInd (bit : BitVec 3) (erd : ErNum) :
    EncodedLength.Statement (.bldInd bit erd) := fun _ _ => ⟨4, by decide, rfl, rfl⟩

theorem EncodedLength.bldAbs8 (bit : BitVec 3) (abs : Byte) :
    EncodedLength.Statement (.bldAbs8 bit abs) := fun _ _ => ⟨4, by decide, rfl, rfl⟩

theorem EncodedLength.bildReg (bit : BitVec 3) (rd : RegNum) :
    EncodedLength.Statement (.bildReg bit rd) := fun _ _ => ⟨2, by decide, rfl, rfl⟩

theorem EncodedLength.bildInd (bit : BitVec 3) (erd : ErNum) :
    EncodedLength.Statement (.bildInd bit erd) := fun _ _ => ⟨4, by decide, rfl, rfl⟩

theorem EncodedLength.bildAbs8 (bit : BitVec 3) (abs : Byte) :
    EncodedLength.Statement (.bildAbs8 bit abs) := fun _ _ => ⟨4, by decide, rfl, rfl⟩

theorem EncodedLength.bstReg (bit : BitVec 3) (rd : RegNum) :
    EncodedLength.Statement (.bstReg bit rd) := fun _ _ => ⟨2, by decide, rfl, rfl⟩

theorem EncodedLength.bstInd (bit : BitVec 3) (erd : ErNum) :
    EncodedLength.Statement (.bstInd bit erd) := fun _ _ => ⟨4, by decide, rfl, rfl⟩

theorem EncodedLength.bstAbs8 (bit : BitVec 3) (abs : Byte) :
    EncodedLength.Statement (.bstAbs8 bit abs) := fun _ _ => ⟨4, by decide, rfl, rfl⟩

theorem EncodedLength.bistReg (bit : BitVec 3) (rd : RegNum) :
    EncodedLength.Statement (.bistReg bit rd) := fun _ _ => ⟨2, by decide, rfl, rfl⟩

theorem EncodedLength.bistInd (bit : BitVec 3) (erd : ErNum) :
    EncodedLength.Statement (.bistInd bit erd) := fun _ _ => ⟨4, by decide, rfl, rfl⟩

theorem EncodedLength.bistAbs8 (bit : BitVec 3) (abs : Byte) :
    EncodedLength.Statement (.bistAbs8 bit abs) := fun _ _ => ⟨4, by decide, rfl, rfl⟩

theorem EncodedLength.bra (disp : BranchDisp) :
    EncodedLength.Statement (.bra disp) := by
  intro ign rest
  cases disp
  · exact ⟨2, by decide, rfl, rfl⟩
  · exact ⟨4, by decide, rfl, rfl⟩

theorem EncodedLength.brn (disp : BranchDisp) :
    EncodedLength.Statement (.brn disp) := by
  intro ign rest
  cases disp
  · exact ⟨2, by decide, rfl, rfl⟩
  · exact ⟨4, by decide, rfl, rfl⟩

theorem EncodedLength.bhi (disp : BranchDisp) :
    EncodedLength.Statement (.bhi disp) := by
  intro ign rest
  cases disp
  · exact ⟨2, by decide, rfl, rfl⟩
  · exact ⟨4, by decide, rfl, rfl⟩

theorem EncodedLength.bls (disp : BranchDisp) :
    EncodedLength.Statement (.bls disp) := by
  intro ign rest
  cases disp
  · exact ⟨2, by decide, rfl, rfl⟩
  · exact ⟨4, by decide, rfl, rfl⟩

theorem EncodedLength.bcc (disp : BranchDisp) :
    EncodedLength.Statement (.bcc disp) := by
  intro ign rest
  cases disp
  · exact ⟨2, by decide, rfl, rfl⟩
  · exact ⟨4, by decide, rfl, rfl⟩

theorem EncodedLength.bcs (disp : BranchDisp) :
    EncodedLength.Statement (.bcs disp) := by
  intro ign rest
  cases disp
  · exact ⟨2, by decide, rfl, rfl⟩
  · exact ⟨4, by decide, rfl, rfl⟩

theorem EncodedLength.bne (disp : BranchDisp) :
    EncodedLength.Statement (.bne disp) := by
  intro ign rest
  cases disp
  · exact ⟨2, by decide, rfl, rfl⟩
  · exact ⟨4, by decide, rfl, rfl⟩

theorem EncodedLength.beq (disp : BranchDisp) :
    EncodedLength.Statement (.beq disp) := by
  intro ign rest
  cases disp
  · exact ⟨2, by decide, rfl, rfl⟩
  · exact ⟨4, by decide, rfl, rfl⟩

theorem EncodedLength.bvc (disp : BranchDisp) :
    EncodedLength.Statement (.bvc disp) := by
  intro ign rest
  cases disp
  · exact ⟨2, by decide, rfl, rfl⟩
  · exact ⟨4, by decide, rfl, rfl⟩

theorem EncodedLength.bvs (disp : BranchDisp) :
    EncodedLength.Statement (.bvs disp) := by
  intro ign rest
  cases disp
  · exact ⟨2, by decide, rfl, rfl⟩
  · exact ⟨4, by decide, rfl, rfl⟩

theorem EncodedLength.bpl (disp : BranchDisp) :
    EncodedLength.Statement (.bpl disp) := by
  intro ign rest
  cases disp
  · exact ⟨2, by decide, rfl, rfl⟩
  · exact ⟨4, by decide, rfl, rfl⟩

theorem EncodedLength.bmi (disp : BranchDisp) :
    EncodedLength.Statement (.bmi disp) := by
  intro ign rest
  cases disp
  · exact ⟨2, by decide, rfl, rfl⟩
  · exact ⟨4, by decide, rfl, rfl⟩

theorem EncodedLength.bge (disp : BranchDisp) :
    EncodedLength.Statement (.bge disp) := by
  intro ign rest
  cases disp
  · exact ⟨2, by decide, rfl, rfl⟩
  · exact ⟨4, by decide, rfl, rfl⟩

theorem EncodedLength.blt (disp : BranchDisp) :
    EncodedLength.Statement (.blt disp) := by
  intro ign rest
  cases disp
  · exact ⟨2, by decide, rfl, rfl⟩
  · exact ⟨4, by decide, rfl, rfl⟩

theorem EncodedLength.bgt (disp : BranchDisp) :
    EncodedLength.Statement (.bgt disp) := by
  intro ign rest
  cases disp
  · exact ⟨2, by decide, rfl, rfl⟩
  · exact ⟨4, by decide, rfl, rfl⟩

theorem EncodedLength.ble (disp : BranchDisp) :
    EncodedLength.Statement (.ble disp) := by
  intro ign rest
  cases disp
  · exact ⟨2, by decide, rfl, rfl⟩
  · exact ⟨4, by decide, rfl, rfl⟩

theorem EncodedLength.jmpInd (ern : ErNum) :
    EncodedLength.Statement (.jmpInd ern) := fun _ _ => ⟨2, by decide, rfl, rfl⟩

theorem EncodedLength.jmpAbs24 (abs : BitVec 24) :
    EncodedLength.Statement (.jmpAbs24 abs) := fun _ _ => ⟨4, by decide, rfl, rfl⟩

theorem EncodedLength.jmpMemInd (abs : Byte) :
    EncodedLength.Statement (.jmpMemInd abs) := fun _ _ => ⟨2, by decide, rfl, rfl⟩

theorem EncodedLength.bsr (disp : BranchDisp) :
    EncodedLength.Statement (.bsr disp) := by
  intro ign rest
  cases disp
  · exact ⟨2, by decide, rfl, rfl⟩
  · exact ⟨4, by decide, rfl, rfl⟩

theorem EncodedLength.jsrInd (ern : ErNum) :
    EncodedLength.Statement (.jsrInd ern) := fun _ _ => ⟨2, by decide, rfl, rfl⟩

theorem EncodedLength.jsrAbs24 (abs : BitVec 24) :
    EncodedLength.Statement (.jsrAbs24 abs) := fun _ _ => ⟨4, by decide, rfl, rfl⟩

theorem EncodedLength.jsrMemInd (abs : Byte) :
    EncodedLength.Statement (.jsrMemInd abs) := fun _ _ => ⟨2, by decide, rfl, rfl⟩

theorem EncodedLength.ldcBImm (imm : Byte) :
    EncodedLength.Statement (.ldcBImm imm) := fun _ _ => ⟨2, by decide, rfl, rfl⟩

theorem EncodedLength.ldcBReg (rs : RegNum) :
    EncodedLength.Statement (.ldcBReg rs) := fun _ _ => ⟨2, by decide, rfl, rfl⟩

theorem EncodedLength.ldcWInd (ers : ErNum) :
    EncodedLength.Statement (.ldcWInd ers) := fun _ _ => ⟨4, by decide, rfl, rfl⟩

theorem EncodedLength.ldcWDisp16 (disp : Word) (ers : ErNum) :
    EncodedLength.Statement (.ldcWDisp16 disp ers) := fun _ _ => ⟨6, by decide, rfl, rfl⟩

theorem EncodedLength.ldcWDisp24 (disp : BitVec 24) (ers : ErNum) :
    EncodedLength.Statement (.ldcWDisp24 disp ers) := fun _ _ => ⟨10, by decide, rfl, rfl⟩

theorem EncodedLength.ldcWInc (ers : ErNum) :
    EncodedLength.Statement (.ldcWInc ers) := fun _ _ => ⟨4, by decide, rfl, rfl⟩

theorem EncodedLength.ldcWAbs16 (abs : Word) :
    EncodedLength.Statement (.ldcWAbs16 abs) := fun _ _ => ⟨6, by decide, rfl, rfl⟩

theorem EncodedLength.ldcWAbs24 (abs : BitVec 24) :
    EncodedLength.Statement (.ldcWAbs24 abs) := fun _ _ => ⟨8, by decide, rfl, rfl⟩

theorem EncodedLength.stcBReg (rd : RegNum) :
    EncodedLength.Statement (.stcBReg rd) := fun _ _ => ⟨2, by decide, rfl, rfl⟩

theorem EncodedLength.stcWInd (erd : ErNum) :
    EncodedLength.Statement (.stcWInd erd) := fun _ _ => ⟨4, by decide, rfl, rfl⟩

theorem EncodedLength.stcWDisp16 (disp : Word) (erd : ErNum) :
    EncodedLength.Statement (.stcWDisp16 disp erd) := fun _ _ => ⟨6, by decide, rfl, rfl⟩

theorem EncodedLength.stcWDisp24 (disp : BitVec 24) (erd : ErNum) :
    EncodedLength.Statement (.stcWDisp24 disp erd) := fun _ _ => ⟨10, by decide, rfl, rfl⟩

theorem EncodedLength.stcWDec (erd : ErNum) :
    EncodedLength.Statement (.stcWDec erd) := fun _ _ => ⟨4, by decide, rfl, rfl⟩

theorem EncodedLength.stcWAbs16 (abs : Word) :
    EncodedLength.Statement (.stcWAbs16 abs) := fun _ _ => ⟨6, by decide, rfl, rfl⟩

theorem EncodedLength.stcWAbs24 (abs : BitVec 24) :
    EncodedLength.Statement (.stcWAbs24 abs) := fun _ _ => ⟨8, by decide, rfl, rfl⟩

theorem EncodedLength.andc (imm : Byte) :
    EncodedLength.Statement (.andc imm) := fun _ _ => ⟨2, by decide, rfl, rfl⟩

theorem EncodedLength.orc (imm : Byte) :
    EncodedLength.Statement (.orc imm) := fun _ _ => ⟨2, by decide, rfl, rfl⟩

theorem EncodedLength.xorc (imm : Byte) :
    EncodedLength.Statement (.xorc imm) := fun _ _ => ⟨2, by decide, rfl, rfl⟩

theorem EncodedLength.trapa (vec : BitVec 2) :
    EncodedLength.Statement (.trapa vec) := fun _ _ => ⟨2, by decide, rfl, rfl⟩

theorem EncodedLength.rts :
    EncodedLength.Statement .rts := fun _ _ => ⟨2, by decide, rfl, rfl⟩

theorem EncodedLength.rte :
    EncodedLength.Statement .rte := fun _ _ => ⟨2, by decide, rfl, rfl⟩

theorem EncodedLength.sleep :
    EncodedLength.Statement .sleep := fun _ _ => ⟨2, by decide, rfl, rfl⟩

theorem EncodedLength.nop :
    EncodedLength.Statement .nop := fun _ _ => ⟨2, by decide, rfl, rfl⟩

theorem EncodedLength.eepmovB :
    EncodedLength.Statement .eepmovB := fun _ _ => ⟨4, by decide, rfl, rfl⟩

theorem EncodedLength.eepmovW :
    EncodedLength.Statement .eepmovW := fun _ _ => ⟨4, by decide, rfl, rfl⟩

end Sys2Proof.Laws
end

