-- ==== Sys2Proof/Safety.lean ====
section
/-!
DEFINITION. The terms of claims: the invariant every step keeps, how a run ends (spec/70_reset_and_hazards.md R484), and
what an instruction changes together with everything it leaves unchanged. Results and flags are written here on exact
integers, apart from the machine's own bit operations.
-/

namespace Sys2Proof.Machine

/-- What holds of every state the machine reaches: the memory has its canonical form, the record of stored addresses is
strictly rising and names only `ram` addresses that hold a value, and PC is even (spec/10_state.md R42). -/
structure State.Inv (s : State) : Prop where
  memory : s.mem.wf
  storedRising : s.stored.Pairwise (· < ·)
  storedHeld : ∀ a ∈ s.stored, memGet s.mem a ≠ none ∧ classOf s.platform a = .ram
  pcEven : s.pc.getLsbD 0 = false

/-- The run has ended normally: the CPU sleeps and no request that the oracle still presents is acceptable (R484). -/
def State.AsleepForEver (s : State) : Prop :=
  s.startPending = false ∧ s.sleeping = true ∧ ∀ p ∈ s.irq, ∀ r ∈ p, acceptable s r = false

/-! ### What changes and what does not -/

/-- CCR after: each flag as the list says, and kept where the list does not name it. -/
def FlagsAfter (s t : State) (flags : List (CcrBit × Bool)) : Prop :=
  ∀ f, ccrGet t.ccr f = (flags.lookup f).getD (ccrGet s.ccr f)

/-- Memory after: the cells (address, byte) are stored; every byte at another bus address reads as before, and the record
of stored addresses grows by the cells alone. -/
def MemoryAfter (s t : State) (cells : List (Addr × Byte)) : Prop :=
  (∀ a, readByte t a =
    match cells.find? fun c => busAddr s.platform c.1 == busAddr s.platform a with
    | some c => .next c.2
    | none => readByte s a) ∧
  ∀ b, b ∈ t.stored ↔ b ∈ s.stored ∨ ∃ c ∈ cells, b = busAddr s.platform c.1

/-- The sleep, the interrupt oracle, the start sequence and the platform are as before. -/
structure EnvKept (s t : State) : Prop where
  sleeping : t.sleeping = s.sleeping
  irq : t.irq = s.irq
  startPending : t.startPending = s.startPending
  platform : t.platform = s.platform

/-- The instruction COMPLETES at `s`: `exec` answers a next state, in which the flags named are as said and the others
kept, the cells named are stored and every other byte kept, and `p` holds (registers and PC). -/
def Completes (i : Instr) (s : State) (flags : List (CcrBit × Bool)) (cells : List (Addr × Byte))
    (p : State → Prop) : Prop :=
  ∃ t, exec i s = .next t ∧ FlagsAfter s t flags ∧ MemoryAfter s t cells ∧ EnvKept s t ∧ p t

/-- The 8-bit register `k` is now `v`; every other 8-bit register and every En is as before. -/
def OnlyR8 (s t : State) (k : RegNum) (v : Byte) : Prop :=
  readR8 t k = v ∧ (∀ j, j ≠ k → readR8 t j = readR8 s j) ∧
    ∀ n, (readEr t n).extractLsb' 16 16 = (readEr s n).extractLsb' 16 16

/-- The 16-bit register `k` is now `v`; every other 16-bit register is as before. -/
def OnlyR16 (s t : State) (k : RegNum) (v : Word) : Prop :=
  readR16 t k = v ∧ ∀ j, j ≠ k → readR16 t j = readR16 s j

/-- ERn is now `v`; every other general register is as before. -/
def OnlyEr (s t : State) (n : ErNum) (v : Long) : Prop :=
  readEr t n = v ∧ ∀ m, m ≠ n → readEr t m = readEr s m

/-- The 8-bit register `k` is now `v` and ERn is now `x`; every other register part is as before. -/
def OnlyR8AndEr (s t : State) (k : RegNum) (v : Byte) (n : ErNum) (x : Long) : Prop :=
  readR8 t k = v ∧ readEr t n = x ∧ (∀ j, j ≠ k → erOf j ≠ n → readR8 t j = readR8 s j) ∧
    ∀ m, m ≠ n → (readEr t m).extractLsb' 16 16 = (readEr s m).extractLsb' 16 16

/-- The 16-bit register `k` is now `v` and ERn is now `x`; every other register part is as before. -/
def OnlyR16AndEr (s t : State) (k : RegNum) (v : Word) (n : ErNum) (x : Long) : Prop :=
  readR16 t k = v ∧ readEr t n = x ∧ ∀ j, j ≠ k → erOf j ≠ n → readR16 t j = readR16 s j

/-- ERm is now `v` and ERn is now `x`; every other general register is as before. -/
def OnlyTwoEr (s t : State) (m : ErNum) (v : Long) (n : ErNum) (x : Long) : Prop :=
  readEr t m = v ∧ readEr t n = x ∧ ∀ o, o ≠ m → o ≠ n → readEr t o = readEr s o

/-- Completes with an 8-bit register and flags changed, and nothing else (PC already past the instruction). -/
def GivesR8 (i : Instr) (s : State) (k : RegNum) (v : Byte) (flags : List (CcrBit × Bool)) : Prop :=
  Completes i s flags [] fun t => OnlyR8 s t k v ∧ t.pc = s.pc

/-- Completes with a 16-bit register and flags changed, and nothing else. -/
def GivesR16 (i : Instr) (s : State) (k : RegNum) (v : Word) (flags : List (CcrBit × Bool)) : Prop :=
  Completes i s flags [] fun t => OnlyR16 s t k v ∧ t.pc = s.pc

/-- Completes with a 32-bit register and flags changed, and nothing else. -/
def GivesEr (i : Instr) (s : State) (n : ErNum) (v : Long) (flags : List (CcrBit × Bool)) : Prop :=
  Completes i s flags [] fun t => OnlyEr s t n v ∧ t.pc = s.pc

/-- Completes with flags changed, and nothing else. -/
def GivesFlags (i : Instr) (s : State) (flags : List (CcrBit × Bool)) : Prop :=
  Completes i s flags [] fun t => t.er = s.er ∧ t.pc = s.pc

/-- Completes with bytes stored and flags changed, every register kept. -/
def Stores (i : Instr) (s : State) (cells : List (Addr × Byte)) (flags : List (CcrBit × Bool)) : Prop :=
  Completes i s flags cells fun t => t.er = s.er ∧ t.pc = s.pc

/-- Completes with bytes stored, flags changed and ERn now `x`, every other register kept. -/
def StoresAndSets (i : Instr) (s : State) (cells : List (Addr × Byte)) (n : ErNum) (x : Long)
    (flags : List (CcrBit × Bool)) : Prop :=
  Completes i s flags cells fun t => OnlyEr s t n x ∧ t.pc = s.pc

/-! ### Bytes stored -/

/-- The two bytes of a word stored at an address, whose bit 0 is ignored (spec/20_memory.md R79). -/
def wordCells (a : Addr) (v : Word) : List (Addr × Byte) :=
  [(evenAddr a, v.extractLsb' 8 8), (evenAddr a + 1#24, v.extractLsb' 0 8)]

/-- The four bytes of a longword stored at an address, whose bit 0 is ignored (R79). -/
def longCells (a : Addr) (v : Long) : List (Addr × Byte) :=
  [(evenAddr a, v.extractLsb' 24 8), (evenAddr a + 1#24, v.extractLsb' 16 8), (evenAddr a + 2#24, v.extractLsb' 8 8),
    (evenAddr a + 3#24, v.extractLsb' 0 8)]

/-- Every cell is an address of class `ram`. -/
def Writable (s : State) (cells : List (Addr × Byte)) : Prop :=
  ∀ c ∈ cells, classOf s.platform (busAddr s.platform c.1) = .ram

/-- The number of bytes of a return address (spec/45_branch.md R379). -/
def returnSize (p : Platform) : Nat :=
  match p.mode with
  | .advanced => 4
  | .normal => 2

/-- The stack pointer after a push of `n` bytes. -/
def pushedSp (s : State) (n : Nat) : Long := readEr s spNum - BitVec.ofNat 32 n

/-- The cells of a return address `pc` pushed at `a`, `any` being the reserved byte of advanced mode. -/
def returnCells (p : Platform) (a : Addr) (any : Byte) (pc : Addr) : List (Addr × Byte) :=
  match p.mode with
  | .advanced => longCells a (any ++ pc)
  | .normal => wordCells a (pc.extractLsb' 0 16)

/-- The cells of an exception frame at `a` (spec/60_exceptions.md R445), `any` being the filler byte of normal mode. -/
def frameCells (p : Platform) (a : Addr) (ccr any : Byte) (pc : Addr) : List (Addr × Byte) :=
  match p.mode with
  | .advanced => longCells a (ccr ++ pc)
  | .normal => longCells a (ccr ++ any ++ pc.extractLsb' 0 16)

/-- Exception entry for vector `v` meets no stop: the frame below SP is `ram`, the vector entry lies outside the frame and
holds the even address `target` (R445). -/
structure EntryReady (s : State) (v : VectorNum) (target : Addr) : Prop where
  frame : Writable s (frameCells s.platform (addrOf (pushedSp s 4)) s.ccr 0#8 s.pc)
  vector : readVector s v = .next target
  apart : ∀ c ∈ frameCells s.platform (addrOf (pushedSp s 4)) s.ccr 0#8 s.pc, ∀ k < returnSize s.platform,
    busAddr s.platform c.1 ≠ returnSize s.platform * v.val + k
  even : target.getLsbD 0 = false

/-- The first byte of a block transfer's source, and of its destination (spec/47_block_transfer.md R422). -/
abbrev blockSource (s : State) : Addr := eaInd s 5#3
abbrev blockTarget (s : State) : Addr := eaInd s 6#3

/-- A block transfer of `n` bytes meets no stop: the source bytes can be read and are `b 0`, `b 1`, ..., the destination
bytes are `ram`, and no source byte is a destination byte (spec/47_block_transfer.md R423). -/
structure BlockReady (s : State) (n : Nat) (b : Nat → Byte) : Prop where
  source : ∀ k < n, readByte s (blockSource s + BitVec.ofNat 24 k) = .next (b k)
  target : ∀ k < n, classOf s.platform (busAddr s.platform (blockTarget s + BitVec.ofNat 24 k)) = .ram
  apart : ∀ j < n, ∀ k < n, busAddr s.platform (blockSource s + BitVec.ofNat 24 j) ≠
    busAddr s.platform (blockTarget s + BitVec.ofNat 24 k)

/-- The cells that a block transfer of the bytes `b 0` to `b (n - 1)` stores. -/
def blockCells (s : State) (n : Nat) (b : Nat → Byte) : List (Addr × Byte) :=
  (List.range n).map fun k => (blockTarget s + BitVec.ofNat 24 k, b k)

/-- The instructions that write CCR as a whole (spec/10_state.md R59). -/
def loadsCcr (i : Instr) : Bool :=
  match i with
  | .ldcBImm _ | .ldcBReg _ | .ldcWInd _ | .ldcWDisp16 _ _ | .ldcWDisp24 _ _ | .ldcWInc _ | .ldcWAbs16 _ | .ldcWAbs24 _
  | .andc _ | .orc _ | .xorc _ | .rte => true
  | _ => false

/-! ### Flags on exact integers -/

/-- All eight flags, from a byte (spec/10_state.md R50). -/
def ccrBits (v : Byte) : List (CcrBit × Bool) :=
  [(.i, v.getLsbD 7), (.ui, v.getLsbD 6), (.h, v.getLsbD 5), (.u, v.getLsbD 4), (.n, v.getLsbD 3), (.z, v.getLsbD 2),
    (.v, v.getLsbD 1), (.c, v.getLsbD 0)]

/-- N and Z as the sign and the zero of a value, V cleared. -/
def signZeroClearV {w : Nat} (v : BitVec w) : List (CcrBit × Bool) :=
  [(.n, decide (v.toInt < 0)), (.z, decide (v.toNat = 0)), (.v, false)]

/-- Carry out of the low `k` bits of `a + b + c`. -/
def carryOut {w : Nat} (k : Nat) (a b : BitVec w) (c : Bool) : Bool :=
  decide (2 ^ k ≤ a.toNat % 2 ^ k + b.toNat % 2 ^ k + c.toNat)

/-- Borrow into the low `k` bits of `a - b - c`. -/
def borrowIn {w : Nat} (k : Nat) (a b : BitVec w) (c : Bool) : Bool :=
  decide ((a.toNat % 2 ^ k : Int) - (b.toNat % 2 ^ k : Int) - c.toNat < 0)

/-- The sum `a + b + c` in `w` bits. -/
def sumOf {w : Nat} (a b : BitVec w) (c : Bool) : BitVec w := BitVec.ofInt w (a.toInt + b.toInt + c.toNat)

/-- The difference `a - b - c` in `w` bits. -/
def differenceOf {w : Nat} (a b : BitVec w) (c : Bool) : BitVec w := BitVec.ofInt w (a.toInt - b.toInt - c.toNat)

/-- The flags of `a + b + c` (spec/00_scope.md R15): V tells that the exact signed sum does not fit. -/
def sumFlags {w : Nat} (a b : BitVec w) (c : Bool) : List (CcrBit × Bool) :=
  [(.h, carryOut (w - 4) a b c), (.n, decide ((sumOf a b c).toInt < 0)), (.z, decide ((sumOf a b c).toNat = 0)),
    (.v, decide ((sumOf a b c).toInt ≠ a.toInt + b.toInt + c.toNat)), (.c, carryOut w a b c)]

/-- The flags of `a - b - c` (spec/00_scope.md R16): V tells that the exact signed difference does not fit. -/
def differenceFlags {w : Nat} (a b : BitVec w) (c : Bool) : List (CcrBit × Bool) :=
  [(.h, borrowIn (w - 4) a b c), (.n, decide ((differenceOf a b c).toInt < 0)),
    (.z, decide ((differenceOf a b c).toNat = 0)),
    (.v, decide ((differenceOf a b c).toInt ≠ a.toInt - b.toInt - c.toNat)), (.c, borrowIn w a b c)]

/-- The same flags with Z kept when the result is 0 and cleared otherwise (spec/41_arithmetic.md R216). -/
def stickyZ (old : Bool) (flags : List (CcrBit × Bool)) : List (CcrBit × Bool) :=
  flags.map fun p => if p.1 = .z then (p.1, old && p.2) else p

/-- The flags N, Z, V alone (INC, DEC). -/
def onlyNZV (flags : List (CcrBit × Bool)) : List (CcrBit × Bool) :=
  flags.filter fun p => p.1 = .n || p.1 = .z || p.1 = .v

/-- A shift on integers: the new contents, the bit that leaves, and V. -/
abbrev ShiftResult (w : Nat) := BitVec w × Bool × Bool

/-- The flags of a shift (spec/43_shift.md R300). -/
def shiftFlags {w : Nat} (r : ShiftResult w) : List (CcrBit × Bool) :=
  [(.n, decide (r.1.toInt < 0)), (.z, decide (r.1.toNat = 0)), (.v, r.2.2), (.c, r.2.1)]

/-- Doubling, `low` entering at bit 0; C is the bit that does not fit. -/
def doubled {w : Nat} (d : BitVec w) (low : Bool) : ShiftResult w :=
  (BitVec.ofNat w (2 * d.toNat + low.toNat), decide (2 ^ w ≤ 2 * d.toNat), false)

/-- Signed doubling: as `doubled`, and V tells that the exact signed double does not fit (R301). -/
def doubledSigned {w : Nat} (d : BitVec w) : ShiftResult w :=
  (BitVec.ofInt w (2 * d.toInt), decide (2 ^ w ≤ 2 * d.toNat), decide ((BitVec.ofInt w (2 * d.toInt)).toInt ≠ 2 * d.toInt))

/-- Halving, `high` entering at the top bit; C is the remainder. -/
def halved {w : Nat} (d : BitVec w) (high : Bool) : ShiftResult w :=
  (BitVec.ofNat w (d.toNat / 2 + high.toNat * 2 ^ (w - 1)), decide (d.toNat % 2 = 1), false)

/-- Signed halving, rounded down; C is the remainder (R302). -/
def halvedSigned {w : Nat} (d : BitVec w) : ShiftResult w :=
  (BitVec.ofInt w (d.toInt / 2), decide (d.toNat % 2 = 1), false)

/-- The top bit of a value, as a number comparison. -/
def isTop {w : Nat} (d : BitVec w) : Bool := decide (2 ^ w ≤ 2 * d.toNat)

/-- Bit `n` of a byte, as a number. -/
def hasBit (b : Byte) (n : BitVec 3) : Bool := decide (b.toNat / 2 ^ n.toNat % 2 = 1)

/-- A byte with bit `n` made `v`: the value of that bit is replaced in the number. -/
def setBitTo (b : Byte) (n : BitVec 3) (v : Bool) : Byte :=
  BitVec.ofNat 8 (b.toNat - (hasBit b n).toNat * 2 ^ n.toNat + v.toNat * 2 ^ n.toNat)

/-- The bit number in a register: its contents modulo 8 (spec/44_bit_manipulation.md R320). -/
def bitNumber (s : State) (rn : RegNum) : BitVec 3 := BitVec.ofNat 3 ((readR8 s rn).toNat % 8)

/-- The displacement of a branch as a signed number. -/
def signedDisp (d : BranchDisp) : Int :=
  match d with
  | .d8 v => v.toInt
  | .d16 v => v.toInt

/-- The target of a PC-relative branch (spec/20_memory.md R92). -/
def branchTarget (s : State) (d : BranchDisp) : Addr := BitVec.ofInt 24 (s.pc.toNat + signedDisp d)

/-- The number that two BCD digits stand for. -/
def bcdValue (b : Byte) : Nat := b.toNat / 16 * 10 + b.toNat % 16

/-- Both digits of a byte are decimal. -/
def IsBcd (b : Byte) : Prop := b.toNat / 16 ≤ 9 ∧ b.toNat % 16 ≤ 9

/-- The BCD byte of a number below 100. -/
def toBcd (n : Nat) : Byte := BitVec.ofNat 8 (n / 10 * 16 + n % 10)

end Sys2Proof.Machine
end

