-- ==== Sys2Proof/WellFormed.lean ====
section
/-!
DEFINITION. Which instructions are well formed: those that the spec does not refuse for the registers they name. A
post-increment load or a pre-decrement store whose data register is a part of its address register, PUSH and POP of ER7
or its parts, and JSR @ER7 are not (spec/40_data_transfer.md R187, spec/45_branch.md R380; D17, log 15).
-/

namespace Sys2Proof

/-- The 8- or 16-bit register with field number `k` is no part of ERn (spec/30_encoding.md R113, R114). -/
def notPartOf (k : RegNum) (n : ErNum) : Bool := k.extractLsb' 0 3 != n

/-- The instruction is one the spec gives a meaning to. -/
def Instr.wellFormed (i : Instr) : Bool :=
  match i with
  | .movBImm _ _ => true
  | .movBReg _ _ => true
  | .movBLdInd _ _ => true
  | .movBLdDisp16 _ _ _ => true
  | .movBLdDisp24 _ _ _ => true
  | .movBLdInc ers rd => notPartOf rd ers
  | .movBLdAbs8 _ _ => true
  | .movBLdAbs16 _ _ => true
  | .movBLdAbs24 _ _ => true
  | .movBStInd _ _ => true
  | .movBStDisp16 _ _ _ => true
  | .movBStDisp24 _ _ _ => true
  | .movBStDec rs erd => notPartOf rs erd
  | .movBStAbs8 _ _ => true
  | .movBStAbs16 _ _ => true
  | .movBStAbs24 _ _ => true
  | .movWImm _ _ => true
  | .movWReg _ _ => true
  | .movWLdInd _ _ => true
  | .movWLdDisp16 _ _ _ => true
  | .movWLdDisp24 _ _ _ => true
  | .movWLdInc ers rd => notPartOf rd ers
  | .movWLdAbs16 _ _ => true
  | .movWLdAbs24 _ _ => true
  | .movWStInd _ _ => true
  | .movWStDisp16 _ _ _ => true
  | .movWStDisp24 _ _ _ => true
  | .movWStDec rs erd => notPartOf rs erd
  | .movWStAbs16 _ _ => true
  | .movWStAbs24 _ _ => true
  | .movLImm _ _ => true
  | .movLReg _ _ => true
  | .movLLdInd _ _ => true
  | .movLLdDisp16 _ _ _ => true
  | .movLLdDisp24 _ _ _ => true
  | .movLLdInc ers erd => erd != ers
  | .movLLdAbs16 _ _ => true
  | .movLLdAbs24 _ _ => true
  | .movLStInd _ _ => true
  | .movLStDisp16 _ _ _ => true
  | .movLStDisp24 _ _ _ => true
  | .movLStDec ers erd => ers != erd
  | .movLStAbs16 _ _ => true
  | .movLStAbs24 _ _ => true
  | .pushW rn => notPartOf rn 7#3
  | .pushL ern => ern != 7#3
  | .popW rn => notPartOf rn 7#3
  | .popL ern => ern != 7#3
  | .addBImm _ _ => true
  | .addBReg _ _ => true
  | .addWImm _ _ => true
  | .addWReg _ _ => true
  | .addLImm _ _ => true
  | .addLReg _ _ => true
  | .subBReg _ _ => true
  | .subWImm _ _ => true
  | .subWReg _ _ => true
  | .subLImm _ _ => true
  | .subLReg _ _ => true
  | .addxBImm _ _ => true
  | .addxBReg _ _ => true
  | .subxBImm _ _ => true
  | .subxBReg _ _ => true
  | .incB _ => true
  | .incW1 _ => true
  | .incW2 _ => true
  | .incL1 _ => true
  | .incL2 _ => true
  | .decB _ => true
  | .decW1 _ => true
  | .decW2 _ => true
  | .decL1 _ => true
  | .decL2 _ => true
  | .adds1 _ => true
  | .adds2 _ => true
  | .adds4 _ => true
  | .subs1 _ => true
  | .subs2 _ => true
  | .subs4 _ => true
  | .daa _ => true
  | .das _ => true
  | .mulxuB _ _ => true
  | .mulxuW _ _ => true
  | .divxuB _ _ => true
  | .divxuW _ _ => true
  | .mulxsB _ _ => true
  | .mulxsW _ _ => true
  | .divxsB _ _ => true
  | .divxsW _ _ => true
  | .cmpBImm _ _ => true
  | .cmpBReg _ _ => true
  | .cmpWImm _ _ => true
  | .cmpWReg _ _ => true
  | .cmpLImm _ _ => true
  | .cmpLReg _ _ => true
  | .negB _ => true
  | .negW _ => true
  | .negL _ => true
  | .extuW _ => true
  | .extuL _ => true
  | .extsW _ => true
  | .extsL _ => true
  | .andBImm _ _ => true
  | .andBReg _ _ => true
  | .andWImm _ _ => true
  | .andWReg _ _ => true
  | .andLImm _ _ => true
  | .andLReg _ _ => true
  | .orBImm _ _ => true
  | .orBReg _ _ => true
  | .orWImm _ _ => true
  | .orWReg _ _ => true
  | .orLImm _ _ => true
  | .orLReg _ _ => true
  | .xorBImm _ _ => true
  | .xorBReg _ _ => true
  | .xorWImm _ _ => true
  | .xorWReg _ _ => true
  | .xorLImm _ _ => true
  | .xorLReg _ _ => true
  | .notB _ => true
  | .notW _ => true
  | .notL _ => true
  | .shalB _ => true
  | .shalW _ => true
  | .shalL _ => true
  | .sharB _ => true
  | .sharW _ => true
  | .sharL _ => true
  | .shllB _ => true
  | .shllW _ => true
  | .shllL _ => true
  | .shlrB _ => true
  | .shlrW _ => true
  | .shlrL _ => true
  | .rotlB _ => true
  | .rotlW _ => true
  | .rotlL _ => true
  | .rotrB _ => true
  | .rotrW _ => true
  | .rotrL _ => true
  | .rotxlB _ => true
  | .rotxlW _ => true
  | .rotxlL _ => true
  | .rotxrB _ => true
  | .rotxrW _ => true
  | .rotxrL _ => true
  | .bsetImmReg _ _ => true
  | .bsetImmInd _ _ => true
  | .bsetImmAbs8 _ _ => true
  | .bsetRnReg _ _ => true
  | .bsetRnInd _ _ => true
  | .bsetRnAbs8 _ _ => true
  | .bclrImmReg _ _ => true
  | .bclrImmInd _ _ => true
  | .bclrImmAbs8 _ _ => true
  | .bclrRnReg _ _ => true
  | .bclrRnInd _ _ => true
  | .bclrRnAbs8 _ _ => true
  | .bnotImmReg _ _ => true
  | .bnotImmInd _ _ => true
  | .bnotImmAbs8 _ _ => true
  | .bnotRnReg _ _ => true
  | .bnotRnInd _ _ => true
  | .bnotRnAbs8 _ _ => true
  | .btstImmReg _ _ => true
  | .btstImmInd _ _ => true
  | .btstImmAbs8 _ _ => true
  | .btstRnReg _ _ => true
  | .btstRnInd _ _ => true
  | .btstRnAbs8 _ _ => true
  | .bandReg _ _ => true
  | .bandInd _ _ => true
  | .bandAbs8 _ _ => true
  | .biandReg _ _ => true
  | .biandInd _ _ => true
  | .biandAbs8 _ _ => true
  | .borReg _ _ => true
  | .borInd _ _ => true
  | .borAbs8 _ _ => true
  | .biorReg _ _ => true
  | .biorInd _ _ => true
  | .biorAbs8 _ _ => true
  | .bxorReg _ _ => true
  | .bxorInd _ _ => true
  | .bxorAbs8 _ _ => true
  | .bixorReg _ _ => true
  | .bixorInd _ _ => true
  | .bixorAbs8 _ _ => true
  | .bldReg _ _ => true
  | .bldInd _ _ => true
  | .bldAbs8 _ _ => true
  | .bildReg _ _ => true
  | .bildInd _ _ => true
  | .bildAbs8 _ _ => true
  | .bstReg _ _ => true
  | .bstInd _ _ => true
  | .bstAbs8 _ _ => true
  | .bistReg _ _ => true
  | .bistInd _ _ => true
  | .bistAbs8 _ _ => true
  | .bra _ => true
  | .brn _ => true
  | .bhi _ => true
  | .bls _ => true
  | .bcc _ => true
  | .bcs _ => true
  | .bne _ => true
  | .beq _ => true
  | .bvc _ => true
  | .bvs _ => true
  | .bpl _ => true
  | .bmi _ => true
  | .bge _ => true
  | .blt _ => true
  | .bgt _ => true
  | .ble _ => true
  | .jmpInd _ => true
  | .jmpAbs24 _ => true
  | .jmpMemInd _ => true
  | .bsr _ => true
  | .jsrInd ern => ern != 7#3
  | .jsrAbs24 _ => true
  | .jsrMemInd _ => true
  | .ldcBImm _ => true
  | .ldcBReg _ => true
  | .ldcWInd _ => true
  | .ldcWDisp16 _ _ => true
  | .ldcWDisp24 _ _ => true
  | .ldcWInc _ => true
  | .ldcWAbs16 _ => true
  | .ldcWAbs24 _ => true
  | .stcBReg _ => true
  | .stcWInd _ => true
  | .stcWDisp16 _ _ => true
  | .stcWDisp24 _ _ => true
  | .stcWDec _ => true
  | .stcWAbs16 _ => true
  | .stcWAbs24 _ => true
  | .andc _ => true
  | .orc _ => true
  | .xorc _ => true
  | .trapa _ => true
  | .rts => true
  | .rte => true
  | .sleep => true
  | .nop => true
  | .eepmovB => true
  | .eepmovW => true

end Sys2Proof
end

