-- ==== Sys2Proof/Certificates/Slice0/Obligations.lean ====
section
/-!
DEFINITION. The statements for the provers. Each says what the rules it names give an instruction or the machine, with
everything that stays unchanged; `Completes` and the terms around it are defined in Sys2Proof/Safety.lean.
-/

open Sys2Proof Sys2Proof.Machine

/-- MOV of an immediate or a register: value, flags and frame (spec rules R171, R172, R175, R176, R179, R180). -/
def Obligations.MoveToRegister : Prop :=
  ∀ s : State,
    (∀ (imm : Byte) (rd : RegNum), GivesR8 (.movBImm imm rd) s rd imm (signZeroClearV imm)) ∧
    (∀ rs rd, GivesR8 (.movBReg rs rd) s rd (readR8 s rs) (signZeroClearV (readR8 s rs))) ∧
    (∀ (imm : Word) (rd : RegNum), GivesR16 (.movWImm imm rd) s rd imm (signZeroClearV imm)) ∧
    (∀ rs rd, GivesR16 (.movWReg rs rd) s rd (readR16 s rs) (signZeroClearV (readR16 s rs))) ∧
    (∀ (imm : Long) (erd : ErNum), GivesEr (.movLImm imm erd) s erd imm (signZeroClearV imm)) ∧
    (∀ ers erd, GivesEr (.movLReg ers erd) s erd (readEr s ers) (signZeroClearV (readEr s ers)))

/-- MOV from memory: value, flags and frame, for the sixteen forms without post-increment (spec rules R170, R173,
R177, R181, R17, R33). -/
def Obligations.LoadFromMemory : Prop :=
  ∀ s : State,
    (∀ (ers : ErNum) (rd : RegNum) v, readByte s (eaInd s ers) = .next v →
      GivesR8 (.movBLdInd ers rd) s rd v (signZeroClearV v)) ∧
    (∀ (disp : Word) (ers : ErNum) (rd : RegNum) v, readByte s (eaDisp16 s disp ers) = .next v →
      GivesR8 (.movBLdDisp16 disp ers rd) s rd v (signZeroClearV v)) ∧
    (∀ (disp : BitVec 24) (ers : ErNum) (rd : RegNum) v, readByte s (eaDisp24 s disp ers) = .next v →
      GivesR8 (.movBLdDisp24 disp ers rd) s rd v (signZeroClearV v)) ∧
    (∀ (abs : Byte) (rd : RegNum) v, readByte s (eaAbs8 abs) = .next v →
      GivesR8 (.movBLdAbs8 abs rd) s rd v (signZeroClearV v)) ∧
    (∀ (abs : Word) (rd : RegNum) v, readByte s (eaAbs16 abs) = .next v →
      GivesR8 (.movBLdAbs16 abs rd) s rd v (signZeroClearV v)) ∧
    (∀ (abs : BitVec 24) (rd : RegNum) v, readByte s (eaAbs24 abs) = .next v →
      GivesR8 (.movBLdAbs24 abs rd) s rd v (signZeroClearV v)) ∧
    (∀ (ers : ErNum) (rd : RegNum) v, readWord s (eaInd s ers) = .next v →
      GivesR16 (.movWLdInd ers rd) s rd v (signZeroClearV v)) ∧
    (∀ (disp : Word) (ers : ErNum) (rd : RegNum) v, readWord s (eaDisp16 s disp ers) = .next v →
      GivesR16 (.movWLdDisp16 disp ers rd) s rd v (signZeroClearV v)) ∧
    (∀ (disp : BitVec 24) (ers : ErNum) (rd : RegNum) v, readWord s (eaDisp24 s disp ers) = .next v →
      GivesR16 (.movWLdDisp24 disp ers rd) s rd v (signZeroClearV v)) ∧
    (∀ (abs : Word) (rd : RegNum) v, readWord s (eaAbs16 abs) = .next v →
      GivesR16 (.movWLdAbs16 abs rd) s rd v (signZeroClearV v)) ∧
    (∀ (abs : BitVec 24) (rd : RegNum) v, readWord s (eaAbs24 abs) = .next v →
      GivesR16 (.movWLdAbs24 abs rd) s rd v (signZeroClearV v)) ∧
    (∀ (ers : ErNum) (erd : ErNum) v, readLong s (eaInd s ers) = .next v →
      GivesEr (.movLLdInd ers erd) s erd v (signZeroClearV v)) ∧
    (∀ (disp : Word) (ers : ErNum) (erd : ErNum) v, readLong s (eaDisp16 s disp ers) = .next v →
      GivesEr (.movLLdDisp16 disp ers erd) s erd v (signZeroClearV v)) ∧
    (∀ (disp : BitVec 24) (ers : ErNum) (erd : ErNum) v, readLong s (eaDisp24 s disp ers) = .next v →
      GivesEr (.movLLdDisp24 disp ers erd) s erd v (signZeroClearV v)) ∧
    (∀ (abs : Word) (erd : ErNum) v, readLong s (eaAbs16 abs) = .next v →
      GivesEr (.movLLdAbs16 abs erd) s erd v (signZeroClearV v)) ∧
    (∀ (abs : BitVec 24) (erd : ErNum) v, readLong s (eaAbs24 abs) = .next v →
      GivesEr (.movLLdAbs24 abs erd) s erd v (signZeroClearV v))

/-- MOV @ERs+ and POP: the value, the flags, the increment and the frame (spec rules R86, R173, R177, R181, R185,
R186, R170). Rests on the model's choices in logs 15, 25 and 26. -/
def Obligations.LoadPostIncrement : Prop :=
  ∀ s : State,
    (∀ ers rd v, erOf rd ≠ ers → readByte s (eaInd s ers) = .next v →
      Completes (.movBLdInc ers rd) s (signZeroClearV v) [] fun t =>
        OnlyR8AndEr s t rd v ers (readEr s ers + 1#32) ∧ t.pc = s.pc) ∧
    (∀ ers rd v, erOf rd ≠ ers → readWord s (eaInd s ers) = .next v →
      Completes (.movWLdInc ers rd) s (signZeroClearV v) [] fun t =>
        OnlyR16AndEr s t rd v ers (readEr s ers + 2#32) ∧ t.pc = s.pc) ∧
    (∀ ers erd v, erd ≠ ers → readLong s (eaInd s ers) = .next v →
      Completes (.movLLdInc ers erd) s (signZeroClearV v) [] fun t =>
        OnlyTwoEr s t erd v ers (readEr s ers + 4#32) ∧ t.pc = s.pc) ∧
    (∀ rn v, erOf rn ≠ spNum → readWord s (eaInd s spNum) = .next v →
      Completes (.popW rn) s (signZeroClearV v) [] fun t =>
        OnlyR16AndEr s t rn v spNum (readEr s spNum + 2#32) ∧ t.pc = s.pc) ∧
    (∀ ern v, ern ≠ spNum → readLong s (eaInd s spNum) = .next v →
      Completes (.popL ern) s (signZeroClearV v) [] fun t =>
        OnlyTwoEr s t ern v spNum (readEr s spNum + 4#32) ∧ t.pc = s.pc)

/-- MOV to memory: the bytes stored, flags and frame, for the sixteen forms without pre-decrement (spec rules R170,
R174, R178, R182, R79, R75). -/
def Obligations.StoreToMemory : Prop :=
  ∀ s : State,
    (∀ (rs : RegNum) (erd : ErNum), Writable s [(eaInd s erd, (readR8 s rs))] →
      Stores (.movBStInd rs erd) s [(eaInd s erd, (readR8 s rs))] (signZeroClearV (readR8 s rs))) ∧
    (∀ (rs : RegNum) (disp : Word) (erd : ErNum), Writable s [(eaDisp16 s disp erd, (readR8 s rs))] →
      Stores (.movBStDisp16 rs disp erd) s [(eaDisp16 s disp erd, (readR8 s rs))] (signZeroClearV (readR8 s rs))) ∧
    (∀ (rs : RegNum) (disp : BitVec 24) (erd : ErNum), Writable s [(eaDisp24 s disp erd, (readR8 s rs))] →
      Stores (.movBStDisp24 rs disp erd) s [(eaDisp24 s disp erd, (readR8 s rs))] (signZeroClearV (readR8 s rs))) ∧
    (∀ (rs : RegNum) (abs : Byte), Writable s [(eaAbs8 abs, (readR8 s rs))] →
      Stores (.movBStAbs8 rs abs) s [(eaAbs8 abs, (readR8 s rs))] (signZeroClearV (readR8 s rs))) ∧
    (∀ (rs : RegNum) (abs : Word), Writable s [(eaAbs16 abs, (readR8 s rs))] →
      Stores (.movBStAbs16 rs abs) s [(eaAbs16 abs, (readR8 s rs))] (signZeroClearV (readR8 s rs))) ∧
    (∀ (rs : RegNum) (abs : BitVec 24), Writable s [(eaAbs24 abs, (readR8 s rs))] →
      Stores (.movBStAbs24 rs abs) s [(eaAbs24 abs, (readR8 s rs))] (signZeroClearV (readR8 s rs))) ∧
    (∀ (rs : RegNum) (erd : ErNum), Writable s (wordCells (eaInd s erd) (readR16 s rs)) →
      Stores (.movWStInd rs erd) s (wordCells (eaInd s erd) (readR16 s rs)) (signZeroClearV (readR16 s rs))) ∧
    (∀ (rs : RegNum) (disp : Word) (erd : ErNum), Writable s (wordCells (eaDisp16 s disp erd) (readR16 s rs)) →
      Stores (.movWStDisp16 rs disp erd) s (wordCells (eaDisp16 s disp erd) (readR16 s rs)) (signZeroClearV
          (readR16 s rs))) ∧
    (∀ (rs : RegNum) (disp : BitVec 24) (erd : ErNum), Writable s (wordCells (eaDisp24 s disp erd) (readR16 s rs)) →
      Stores (.movWStDisp24 rs disp erd) s (wordCells (eaDisp24 s disp erd) (readR16 s rs)) (signZeroClearV
          (readR16 s rs))) ∧
    (∀ (rs : RegNum) (abs : Word), Writable s (wordCells (eaAbs16 abs) (readR16 s rs)) →
      Stores (.movWStAbs16 rs abs) s (wordCells (eaAbs16 abs) (readR16 s rs)) (signZeroClearV (readR16 s rs))) ∧
    (∀ (rs : RegNum) (abs : BitVec 24), Writable s (wordCells (eaAbs24 abs) (readR16 s rs)) →
      Stores (.movWStAbs24 rs abs) s (wordCells (eaAbs24 abs) (readR16 s rs)) (signZeroClearV (readR16 s rs))) ∧
    (∀ (ers : ErNum) (erd : ErNum), Writable s (longCells (eaInd s erd) (readEr s ers)) →
      Stores (.movLStInd ers erd) s (longCells (eaInd s erd) (readEr s ers)) (signZeroClearV (readEr s ers))) ∧
    (∀ (ers : ErNum) (disp : Word) (erd : ErNum), Writable s (longCells (eaDisp16 s disp erd) (readEr s ers)) →
      Stores (.movLStDisp16 ers disp erd) s (longCells (eaDisp16 s disp erd) (readEr s ers)) (signZeroClearV
          (readEr s ers))) ∧
    (∀ (ers : ErNum) (disp : BitVec 24) (erd : ErNum), Writable s (longCells (eaDisp24 s disp erd) (readEr s ers)) →
      Stores (.movLStDisp24 ers disp erd) s (longCells (eaDisp24 s disp erd) (readEr s ers)) (signZeroClearV
          (readEr s ers))) ∧
    (∀ (ers : ErNum) (abs : Word), Writable s (longCells (eaAbs16 abs) (readEr s ers)) →
      Stores (.movLStAbs16 ers abs) s (longCells (eaAbs16 abs) (readEr s ers)) (signZeroClearV (readEr s ers))) ∧
    (∀ (ers : ErNum) (abs : BitVec 24), Writable s (longCells (eaAbs24 abs) (readEr s ers)) →
      Stores (.movLStAbs24 ers abs) s (longCells (eaAbs24 abs) (readEr s ers)) (signZeroClearV (readEr s ers)))

/-- MOV @-ERd and PUSH: the bytes stored, the decrement, flags and frame (spec rules R87, R174, R178, R182, R183,
R184, R79). Rests on the model's choices in logs 15, 25 and 26. -/
def Obligations.StorePreDecrement : Prop :=
  ∀ s : State,
    (∀ rs erd, erOf rs ≠ erd → Writable s [(addrOf (readEr s erd - 1#32), (readR8 s rs))] →
      StoresAndSets (.movBStDec rs erd) s [(addrOf (readEr s erd - 1#32), (readR8 s rs))]
        erd (readEr s erd - 1#32) (signZeroClearV (readR8 s rs))) ∧
    (∀ rs erd, erOf rs ≠ erd → Writable s (wordCells (addrOf (readEr s erd - 2#32)) (readR16 s rs)) →
      StoresAndSets (.movWStDec rs erd) s (wordCells (addrOf (readEr s erd - 2#32)) (readR16 s rs))
        erd (readEr s erd - 2#32) (signZeroClearV (readR16 s rs))) ∧
    (∀ ers erd, ers ≠ erd → Writable s (longCells (addrOf (readEr s erd - 4#32)) (readEr s ers)) →
      StoresAndSets (.movLStDec ers erd) s (longCells (addrOf (readEr s erd - 4#32)) (readEr s ers))
        erd (readEr s erd - 4#32) (signZeroClearV (readEr s ers))) ∧
    (∀ rn, erOf rn ≠ spNum → Writable s (wordCells (addrOf (pushedSp s 2)) (readR16 s rn)) →
      StoresAndSets (.pushW rn) s (wordCells (addrOf (pushedSp s 2)) (readR16 s rn)) spNum (pushedSp s 2)
        (signZeroClearV (readR16 s rn))) ∧
    (∀ ern, ern ≠ spNum → Writable s (longCells (addrOf (pushedSp s 4)) (readEr s ern)) →
      StoresAndSets (.pushL ern) s (longCells (addrOf (pushedSp s 4)) (readEr s ern)) spNum (pushedSp s 4)
        (signZeroClearV (readEr s ern)))

/-- The refusal registerOverlap is answered by the ill-formed instructions and by no other (spec rules R187, R380).
Rests on the model's choice in log 15. -/
def Obligations.OverlapRefusedExactly : Prop :=
  ∀ (i : Instr) (s : State), exec i s = .refused .registerOverlap ↔ i.wellFormed = false

/-- PUSH then POP into any register leaves SP unchanged and moves the value (spec rules R188, R183, R184, R185, R186).
Rests on the model's choices in logs 14 and 15. -/
def Obligations.PushThenPopRestores : Prop :=
  ∀ s : State,
    (∀ rn rm, erOf rn ≠ spNum → erOf rm ≠ spNum → Writable s (wordCells (addrOf (pushedSp s 2)) (readR16 s rn)) →
      ∃ t u, exec (.pushW rn) s = .next t ∧ exec (.popW rm) t = .next u ∧ OnlyR16 s u rm (readR16 s rn) ∧
          u.pc = s.pc) ∧
    (∀ ern erm, ern ≠ spNum → erm ≠ spNum → Writable s (longCells (addrOf (pushedSp s 4)) (readEr s ern)) →
      ∃ t u, exec (.pushL ern) s = .next t ∧ exec (.popL erm) t = .next u ∧ OnlyEr s u erm (readEr s ern) ∧
          u.pc = s.pc)

/-- PUSH and POP are other names of MOV forms with ER7: same encoding, same meaning (spec rules R151, R183, R184,
R185, R186). Rests on the model's choices in logs 12 and 14. -/
def Obligations.PushPopAreMoves : Prop :=
  (∀ rn, encode (.pushW rn) = encode (.movWStDec rn 7#3) ∧ decode (encode (.pushW rn)) = .ok (.movWStDec rn 7#3) 2 ∧
      ∀ s : State, exec (.pushW rn) s = exec (.movWStDec rn 7#3) s) ∧
    (∀ ern, encode (.pushL ern) = encode (.movLStDec ern 7#3) ∧ decode (encode (.pushL ern)) =
        .ok (.movLStDec ern 7#3) 4 ∧
      ∀ s : State, exec (.pushL ern) s = exec (.movLStDec ern 7#3) s) ∧
    (∀ rn, encode (.popW rn) = encode (.movWLdInc 7#3 rn) ∧ decode (encode (.popW rn)) = .ok (.movWLdInc 7#3 rn) 2 ∧
      ∀ s : State, exec (.popW rn) s = exec (.movWLdInc 7#3 rn) s) ∧
    (∀ ern, encode (.popL ern) = encode (.movLLdInc 7#3 ern) ∧ decode (encode (.popL ern)) =
        .ok (.movLLdInc 7#3 ern) 4 ∧
      ∀ s : State, exec (.popL ern) s = exec (.movLLdInc 7#3 ern) s)

/-- ADD: the sum, the five flags on exact integers, and the frame (spec rules R210, R211, R212, R15, R33). Rests on
the model's choice in log 22. -/
def Obligations.AddWritesSum : Prop :=
  ∀ s : State,
    (∀ (imm : Byte) rd, GivesR8 (.addBImm imm rd) s rd (sumOf (readR8 s rd) imm false) (sumFlags
        (readR8 s rd) imm false)) ∧
    (∀ rs rd, GivesR8 (.addBReg rs rd) s rd (sumOf (readR8 s rd) (readR8 s rs) false) (sumFlags (readR8 s rd)
        (readR8 s rs) false)) ∧
    (∀ (imm : Word) rd, GivesR16 (.addWImm imm rd) s rd (sumOf (readR16 s rd) imm false) (sumFlags
        (readR16 s rd) imm false)) ∧
    (∀ rs rd, GivesR16 (.addWReg rs rd) s rd (sumOf (readR16 s rd) (readR16 s rs) false) (sumFlags (readR16 s rd)
        (readR16 s rs) false)) ∧
    (∀ (imm : Long) erd, GivesEr (.addLImm imm erd) s erd (sumOf (readEr s erd) imm false) (sumFlags
        (readEr s erd) imm false)) ∧
    (∀ ers erd, GivesEr (.addLReg ers erd) s erd (sumOf (readEr s erd) (readEr s ers) false) (sumFlags
        (readEr s erd) (readEr s ers) false))

/-- SUB, CMP and NEG: the difference, the five flags on exact integers, and the frame (spec rules R213, R214, R215,
R236, R237, R238, R239, R240, R241, R16). Rests on the model's choice in log 22. -/
def Obligations.SubtractCompareNegate : Prop :=
  ∀ s : State,
    (∀ rs rd, GivesR8 (.subBReg rs rd) s rd (differenceOf (readR8 s rd) (readR8 s rs) false) (differenceFlags
        (readR8 s rd) (readR8 s rs) false)) ∧
    (∀ (imm : Word) rd, GivesR16 (.subWImm imm rd) s rd (differenceOf (readR16 s rd) imm false) (differenceFlags
        (readR16 s rd) imm false)) ∧
    (∀ rs rd, GivesR16 (.subWReg rs rd) s rd (differenceOf (readR16 s rd) (readR16 s rs) false) (differenceFlags
        (readR16 s rd) (readR16 s rs) false)) ∧
    (∀ (imm : Long) erd, GivesEr (.subLImm imm erd) s erd (differenceOf (readEr s erd) imm false) (differenceFlags
        (readEr s erd) imm false)) ∧
    (∀ ers erd, GivesEr (.subLReg ers erd) s erd (differenceOf (readEr s erd) (readEr s ers) false)
        (differenceFlags (readEr s erd) (readEr s ers) false)) ∧
    (∀ (imm : Byte) rd, GivesFlags (.cmpBImm imm rd) s (differenceFlags (readR8 s rd) imm false)) ∧
    (∀ rs rd, GivesFlags (.cmpBReg rs rd) s
      (differenceFlags (readR8 s rd) (readR8 s rs) false)) ∧
    (∀ (imm : Word) rd, GivesFlags (.cmpWImm imm rd) s (differenceFlags (readR16 s rd) imm false)) ∧
    (∀ rs rd, GivesFlags (.cmpWReg rs rd) s
      (differenceFlags (readR16 s rd) (readR16 s rs) false)) ∧
    (∀ (imm : Long) erd, GivesFlags (.cmpLImm imm erd) s (differenceFlags (readEr s erd) imm false)) ∧
    (∀ ers erd, GivesFlags (.cmpLReg ers erd) s
      (differenceFlags (readEr s erd) (readEr s ers) false)) ∧
    (∀ rd, GivesR8 (.negB rd) s rd (differenceOf 0#8 (readR8 s rd) false)
      (differenceFlags 0#8 (readR8 s rd) false)) ∧
    (∀ rd, GivesR16 (.negW rd) s rd (differenceOf 0#16 (readR16 s rd) false)
      (differenceFlags 0#16 (readR16 s rd) false)) ∧
    (∀ erd, GivesEr (.negL erd) s erd (differenceOf 0#32 (readEr s erd) false)
      (differenceFlags 0#32 (readEr s erd) false))

/-- ADDX and SUBX: the sum or difference with the old C, Z sticky (spec rules R216, R217, R15, R16). Rests on the
model's choice in log 22. -/
def Obligations.AddSubtractWithCarry : Prop :=
  ∀ s : State,
    (∀ (imm : Byte) rd, GivesR8 (.addxBImm imm rd) s rd (sumOf (readR8 s rd) imm (ccrGet s.ccr .c))
      (stickyZ (ccrGet s.ccr .z) (sumFlags (readR8 s rd) imm (ccrGet s.ccr .c)))) ∧
    (∀ rs rd, GivesR8 (.addxBReg rs rd) s rd (sumOf (readR8 s rd) (readR8 s rs) (ccrGet s.ccr .c))
      (stickyZ (ccrGet s.ccr .z) (sumFlags (readR8 s rd) (readR8 s rs) (ccrGet s.ccr .c)))) ∧
    (∀ (imm : Byte) rd, GivesR8 (.subxBImm imm rd) s rd (differenceOf (readR8 s rd) imm (ccrGet s.ccr .c))
      (stickyZ (ccrGet s.ccr .z) (differenceFlags (readR8 s rd) imm (ccrGet s.ccr .c)))) ∧
    (∀ rs rd, GivesR8 (.subxBReg rs rd) s rd (differenceOf (readR8 s rd) (readR8 s rs) (ccrGet s.ccr .c))
      (stickyZ (ccrGet s.ccr .z) (differenceFlags (readR8 s rd) (readR8 s rs) (ccrGet s.ccr .c))))

/-- ADD.B then ADDX.B (SUB.B then SUBX.B) on the two halves of a word is the word operation (spec rules R216, R217,
R15, R16). Rests on the model's choice in log 22. -/
def Obligations.WordFromBytePairs : Prop :=
  ∀ (s : State) (m n : ErNum),
    (∃ t u, exec (.addBReg (1#1 ++ m) (1#1 ++ n)) s = .next t ∧ exec (.addxBReg (0#1 ++ m) (0#1 ++ n)) t = .next u ∧
      OnlyR16 s u (0#1 ++ n) (sumOf (readR16 s (0#1 ++ n)) (readR16 s (0#1 ++ m)) false) ∧
      ∀ f ∈ [CcrBit.n, .z, .v, .c],
        some (ccrGet u.ccr f) = (sumFlags (readR16 s (0#1 ++ n)) (readR16 s (0#1 ++ m)) false).lookup f) ∧
    (∃ t u, exec (.subBReg (1#1 ++ m) (1#1 ++ n)) s = .next t ∧ exec (.subxBReg (0#1 ++ m) (0#1 ++ n)) t = .next u ∧
      OnlyR16 s u (0#1 ++ n) (differenceOf (readR16 s (0#1 ++ n)) (readR16 s (0#1 ++ m)) false) ∧
      ∀ f ∈ [CcrBit.n, .z, .v, .c],
        some (ccrGet u.ccr f) = (differenceFlags (readR16 s (0#1 ++ n)) (readR16 s (0#1 ++ m)) false).lookup f)

/-- INC and DEC: the result, N, Z and V alone, and the frame (spec rules R218, R219, R220, R221, R222, R223). Rests on
the model's choice in log 22. -/
def Obligations.IncrementDecrement : Prop :=
  ∀ s : State,
    (∀ rd, GivesR8 (.incB rd) s rd (sumOf (readR8 s rd) 1#8 false)
      (onlyNZV (sumFlags (readR8 s rd) 1#8 false))) ∧
    (∀ rd, GivesR8 (.decB rd) s rd (differenceOf (readR8 s rd) 1#8 false)
      (onlyNZV (differenceFlags (readR8 s rd) 1#8 false))) ∧
    (∀ rd, GivesR16 (.incW1 rd) s rd (sumOf (readR16 s rd) 1#16 false)
      (onlyNZV (sumFlags (readR16 s rd) 1#16 false))) ∧
    (∀ rd, GivesR16 (.decW1 rd) s rd (differenceOf (readR16 s rd) 1#16 false)
      (onlyNZV (differenceFlags (readR16 s rd) 1#16 false))) ∧
    (∀ rd, GivesR16 (.incW2 rd) s rd (sumOf (readR16 s rd) 2#16 false)
      (onlyNZV (sumFlags (readR16 s rd) 2#16 false))) ∧
    (∀ rd, GivesR16 (.decW2 rd) s rd (differenceOf (readR16 s rd) 2#16 false)
      (onlyNZV (differenceFlags (readR16 s rd) 2#16 false))) ∧
    (∀ erd, GivesEr (.incL1 erd) s erd (sumOf (readEr s erd) 1#32 false)
      (onlyNZV (sumFlags (readEr s erd) 1#32 false))) ∧
    (∀ erd, GivesEr (.decL1 erd) s erd (differenceOf (readEr s erd) 1#32 false)
      (onlyNZV (differenceFlags (readEr s erd) 1#32 false))) ∧
    (∀ erd, GivesEr (.incL2 erd) s erd (sumOf (readEr s erd) 2#32 false)
      (onlyNZV (sumFlags (readEr s erd) 2#32 false))) ∧
    (∀ erd, GivesEr (.decL2 erd) s erd (differenceOf (readEr s erd) 2#32 false)
      (onlyNZV (differenceFlags (readEr s erd) 2#32 false)))

/-- ADDS and SUBS: the register changes by 1, 2 or 4 modulo 2^32, and no flag changes (spec rules R224, R225). -/
def Obligations.AddsSubsKeepFlags : Prop :=
  ∀ s : State,
    (∀ erd, GivesEr (.adds1 erd) s erd (BitVec.ofInt 32 ((readEr s erd).toNat + 1)) []) ∧
    (∀ erd, GivesEr (.adds2 erd) s erd (BitVec.ofInt 32 ((readEr s erd).toNat + 2)) []) ∧
    (∀ erd, GivesEr (.adds4 erd) s erd (BitVec.ofInt 32 ((readEr s erd).toNat + 4)) []) ∧
    (∀ erd, GivesEr (.subs1 erd) s erd (BitVec.ofInt 32 ((readEr s erd).toNat - 1)) []) ∧
    (∀ erd, GivesEr (.subs2 erd) s erd (BitVec.ofInt 32 ((readEr s erd).toNat - 2)) []) ∧
    (∀ erd, GivesEr (.subs4 erd) s erd (BitVec.ofInt 32 ((readEr s erd).toNat - 4)) [])

/-- DAA and DAS complete for every operand: the row of the table where one fits, free values elsewhere (spec rules
R226, R227). Rests on the model's choices in logs 8 and 20. -/
def Obligations.DecimalAdjustRows : Prop :=
  ∀ (s : State) (rd : RegNum),
    (∃ v h n z o c, GivesR8 (.daa rd) s rd v [(.h, h), (.n, n), (.z, z), (.v, o), (.c, c)] ∧
      ∀ r, bcdLookup daaTable (ccrGet s.ccr .c) (ccrGet s.ccr .h) (readR8 s rd) = some r →
        v.toNat = ((readR8 s rd).toNat + r.added.toNat) % 256 ∧ n = decide (v.toInt < 0) ∧ z = decide (v.toNat = 0) ∧
          c = r.cAfter) ∧
    (∃ v h n z o, GivesR8 (.das rd) s rd v [(.h, h), (.n, n), (.z, z), (.v, o)] ∧
      ∀ r, bcdLookup dasTable (ccrGet s.ccr .c) (ccrGet s.ccr .h) (readR8 s rd) = some r →
        v.toNat = ((readR8 s rd).toNat + r.added.toNat) % 256 ∧ n = decide (v.toInt < 0) ∧ z = decide (v.toNat = 0))

/-- ADD or ADDX then DAA is decimal addition; SUB or SUBX then DAS is decimal subtraction (spec rules R226, R227).
Rests on the model's choice in log 20. -/
def Obligations.DecimalArithmetic : Prop :=
  ∀ (s : State) (rs rd : RegNum), IsBcd (readR8 s rs) → IsBcd (readR8 s rd) →
    (∃ t u, exec (.addBReg rs rd) s = .next t ∧ exec (.daa rd) t = .next u ∧
      readR8 u rd = toBcd ((bcdValue (readR8 s rd) + bcdValue (readR8 s rs)) % 100) ∧
      ccrGet u.ccr .c = decide (100 ≤ bcdValue (readR8 s rd) + bcdValue (readR8 s rs))) ∧
    (∃ t u, exec (.addxBReg rs rd) s = .next t ∧ exec (.daa rd) t = .next u ∧
      readR8 u rd = toBcd ((bcdValue (readR8 s rd) + bcdValue (readR8 s rs) + (ccrGet s.ccr .c).toNat) % 100) ∧
      ccrGet u.ccr .c = decide (100 ≤ bcdValue (readR8 s rd) + bcdValue (readR8 s rs) + (ccrGet s.ccr .c).toNat)) ∧
    (∃ t u, exec (.subBReg rs rd) s = .next t ∧ exec (.das rd) t = .next u ∧
      readR8 u rd = toBcd ((bcdValue (readR8 s rd) + 100 - bcdValue (readR8 s rs)) % 100) ∧
      ccrGet u.ccr .c = decide (bcdValue (readR8 s rd) < bcdValue (readR8 s rs))) ∧
    (∃ t u, exec (.subxBReg rs rd) s = .next t ∧ exec (.das rd) t = .next u ∧
      readR8 u rd = toBcd ((bcdValue (readR8 s rd) + 100 - bcdValue (readR8 s rs) - (ccrGet s.ccr .c).toNat) % 100) ∧
      ccrGet u.ccr .c = decide (bcdValue (readR8 s rd) < bcdValue (readR8 s rs) + (ccrGet s.ccr .c).toNat))

/-- MULXU and MULXS: the full product; MULXS sets N and Z from it (spec rules R228, R229, R232, R233, R247, R251).
Rests on the model's choice in log 21. -/
def Obligations.Multiplication : Prop :=
  ∀ s : State,
    (∀ rs rd, ∃ v, GivesR16 (.mulxuB rs rd) s rd v [] ∧ v.toNat = (readR16 s rd).toNat % 256 * (readR8 s rs).toNat) ∧
    (∀ rs erd, ∃ v, GivesEr (.mulxuW rs erd) s erd v [] ∧
      v.toNat = (readEr s erd).toNat % 65536 * (readR16 s rs).toNat) ∧
    (∀ rs rd, ∃ v, GivesR16 (.mulxsB rs rd) s rd v [(.n, decide (v.toInt < 0)), (.z, decide (v.toNat = 0))] ∧
      v.toInt = ((readR16 s rd).setWidth 8).toInt * (readR8 s rs).toInt) ∧
    (∀ rs erd, ∃ v, GivesEr (.mulxsW rs erd) s erd v [(.n, decide (v.toInt < 0)), (.z, decide (v.toNat = 0))] ∧
      v.toInt = ((readEr s erd).setWidth 16).toInt * (readR16 s rs).toInt)

/-- DIVXU: quotient and remainder where they exist, a free value elsewhere, N and Z from the divisor (spec rules R230,
R231, R248, R250). Rests on the model's choices in logs 8, 21 and 35. -/
def Obligations.UnsignedDivision : Prop :=
  ∀ s : State,
    (∀ rs rd, ∃ v, GivesR16 (.divxuB rs rd) s rd v
        [(.n, decide ((readR8 s rs).toInt < 0)), (.z, decide ((readR8 s rs).toNat = 0))] ∧
      ((readR8 s rs).toNat ≠ 0 → (readR16 s rd).toNat / (readR8 s rs).toNat ≤ 255 →
        (readR16 s rd).toNat = v.toNat % 256 * (readR8 s rs).toNat + v.toNat / 256 ∧
          v.toNat / 256 < (readR8 s rs).toNat)) ∧
    (∀ rs erd, ∃ v, GivesEr (.divxuW rs erd) s erd v
        [(.n, decide ((readR16 s rs).toInt < 0)), (.z, decide ((readR16 s rs).toNat = 0))] ∧
      ((readR16 s rs).toNat ≠ 0 → (readEr s erd).toNat / (readR16 s rs).toNat ≤ 65535 →
        (readEr s erd).toNat = v.toNat % 65536 * (readR16 s rs).toNat + v.toNat / 65536 ∧
          v.toNat / 65536 < (readR16 s rs).toNat))

/-- DIVXS: quotient rounded to zero and remainder where they exist, free values elsewhere (spec rules R234, R235,
R248, R250). Rests on the model's choices in logs 8, 21 and 38 (38: a dividend 0 has no sign, so N is 0 there). -/
def Obligations.SignedDivision : Prop :=
  ∀ s : State,
    (∀ rs rd, ∃ v b, GivesR16 (.divxsB rs rd) s rd v [(.n, b), (.z, decide ((readR8 s rs).toInt = 0))] ∧
      ((readR8 s rs).toInt ≠ 0 → -(2 ^ 7) ≤ (readR16 s rd).toInt.tdiv (readR8 s rs).toInt →
          (readR16 s rd).toInt.tdiv (readR8 s rs).toInt < 2 ^ 7 →
        (v.extractLsb' 0 8).toInt = (readR16 s rd).toInt.tdiv (readR8 s rs).toInt ∧
            (v.extractLsb' 8 8).toInt = (readR16 s rd).toInt.tmod (readR8 s rs).toInt ∧
          (¬((readR16 s rd).toInt.tdiv (readR8 s rs).toInt = 0 ∧ ((readR16 s rd).toInt < 0 ∧
              0 < (readR8 s rs).toInt ∨ 0 < (readR16 s rd).toInt ∧
              (readR8 s rs).toInt < 0)) → b = decide ((readR16 s rd).toInt.tdiv (readR8 s rs).toInt < 0)))) ∧
    (∀ rs erd, ∃ v b, GivesEr (.divxsW rs erd) s erd v [(.n, b), (.z, decide ((readR16 s rs).toInt = 0))] ∧
      ((readR16 s rs).toInt ≠ 0 → -(2 ^ 15) ≤ (readEr s erd).toInt.tdiv (readR16 s rs).toInt →
          (readEr s erd).toInt.tdiv (readR16 s rs).toInt < 2 ^ 15 →
        (v.extractLsb' 0 16).toInt = (readEr s erd).toInt.tdiv (readR16 s rs).toInt ∧
            (v.extractLsb' 16 16).toInt = (readEr s erd).toInt.tmod (readR16 s rs).toInt ∧
          (¬((readEr s erd).toInt.tdiv (readR16 s rs).toInt = 0 ∧ ((readEr s erd).toInt < 0 ∧
              0 < (readR16 s rs).toInt ∨ 0 < (readEr s erd).toInt ∧
              (readR16 s rs).toInt < 0)) → b = decide ((readEr s erd).toInt.tdiv (readR16 s rs).toInt < 0))))

/-- EXTU and EXTS: the low half extended into the register, flags and frame (spec rules R242, R243, R244, R245, R12).
-/
def Obligations.ExtendRegister : Prop :=
  ∀ s : State,
    (∀ rd, ∃ v, GivesR16 (.extuW rd) s rd v (signZeroClearV v) ∧ v.toNat = (readR16 s rd).toNat % 256) ∧
    (∀ erd, ∃ v, GivesEr (.extuL erd) s erd v (signZeroClearV v) ∧ v.toNat = (readEr s erd).toNat % 65536) ∧
    (∀ rd, ∃ v, GivesR16 (.extsW rd) s rd v (signZeroClearV v) ∧ v.toInt = ((readR16 s rd).setWidth 8).toInt) ∧
    (∀ erd, ∃ v, GivesEr (.extsL erd) s erd v (signZeroClearV v) ∧ v.toInt = ((readEr s erd).setWidth 16).toInt)

/-- AND, OR, XOR and NOT: the result bit by bit, flags and frame (spec rule R280). -/
def Obligations.LogicOperations : Prop :=
  ∀ s : State,
    (∀ (imm : Byte) rd, ∃ v, GivesR8 (.andBImm imm rd) s rd v (signZeroClearV v) ∧
      ∀ k, v.getLsbD k = ((readR8 s rd).getLsbD k && imm.getLsbD k)) ∧
    (∀ rs rd, ∃ v, GivesR8 (.andBReg rs rd) s rd v (signZeroClearV v) ∧
      ∀ k, v.getLsbD k = ((readR8 s rd).getLsbD k && (readR8 s rs).getLsbD k)) ∧
    (∀ (imm : Word) rd, ∃ v, GivesR16 (.andWImm imm rd) s rd v (signZeroClearV v) ∧
      ∀ k, v.getLsbD k = ((readR16 s rd).getLsbD k && imm.getLsbD k)) ∧
    (∀ rs rd, ∃ v, GivesR16 (.andWReg rs rd) s rd v (signZeroClearV v) ∧
      ∀ k, v.getLsbD k = ((readR16 s rd).getLsbD k && (readR16 s rs).getLsbD k)) ∧
    (∀ (imm : Long) erd, ∃ v, GivesEr (.andLImm imm erd) s erd v (signZeroClearV v) ∧
      ∀ k, v.getLsbD k = ((readEr s erd).getLsbD k && imm.getLsbD k)) ∧
    (∀ ers erd, ∃ v, GivesEr (.andLReg ers erd) s erd v (signZeroClearV v) ∧
      ∀ k, v.getLsbD k = ((readEr s erd).getLsbD k && (readEr s ers).getLsbD k)) ∧
    (∀ (imm : Byte) rd, ∃ v, GivesR8 (.orBImm imm rd) s rd v (signZeroClearV v) ∧
      ∀ k, v.getLsbD k = ((readR8 s rd).getLsbD k || imm.getLsbD k)) ∧
    (∀ rs rd, ∃ v, GivesR8 (.orBReg rs rd) s rd v (signZeroClearV v) ∧
      ∀ k, v.getLsbD k = ((readR8 s rd).getLsbD k || (readR8 s rs).getLsbD k)) ∧
    (∀ (imm : Word) rd, ∃ v, GivesR16 (.orWImm imm rd) s rd v (signZeroClearV v) ∧
      ∀ k, v.getLsbD k = ((readR16 s rd).getLsbD k || imm.getLsbD k)) ∧
    (∀ rs rd, ∃ v, GivesR16 (.orWReg rs rd) s rd v (signZeroClearV v) ∧
      ∀ k, v.getLsbD k = ((readR16 s rd).getLsbD k || (readR16 s rs).getLsbD k)) ∧
    (∀ (imm : Long) erd, ∃ v, GivesEr (.orLImm imm erd) s erd v (signZeroClearV v) ∧
      ∀ k, v.getLsbD k = ((readEr s erd).getLsbD k || imm.getLsbD k)) ∧
    (∀ ers erd, ∃ v, GivesEr (.orLReg ers erd) s erd v (signZeroClearV v) ∧
      ∀ k, v.getLsbD k = ((readEr s erd).getLsbD k || (readEr s ers).getLsbD k)) ∧
    (∀ (imm : Byte) rd, ∃ v, GivesR8 (.xorBImm imm rd) s rd v (signZeroClearV v) ∧
      ∀ k, v.getLsbD k = ((readR8 s rd).getLsbD k ^^ imm.getLsbD k)) ∧
    (∀ rs rd, ∃ v, GivesR8 (.xorBReg rs rd) s rd v (signZeroClearV v) ∧
      ∀ k, v.getLsbD k = ((readR8 s rd).getLsbD k ^^ (readR8 s rs).getLsbD k)) ∧
    (∀ (imm : Word) rd, ∃ v, GivesR16 (.xorWImm imm rd) s rd v (signZeroClearV v) ∧
      ∀ k, v.getLsbD k = ((readR16 s rd).getLsbD k ^^ imm.getLsbD k)) ∧
    (∀ rs rd, ∃ v, GivesR16 (.xorWReg rs rd) s rd v (signZeroClearV v) ∧
      ∀ k, v.getLsbD k = ((readR16 s rd).getLsbD k ^^ (readR16 s rs).getLsbD k)) ∧
    (∀ (imm : Long) erd, ∃ v, GivesEr (.xorLImm imm erd) s erd v (signZeroClearV v) ∧
      ∀ k, v.getLsbD k = ((readEr s erd).getLsbD k ^^ imm.getLsbD k)) ∧
    (∀ ers erd, ∃ v, GivesEr (.xorLReg ers erd) s erd v (signZeroClearV v) ∧
      ∀ k, v.getLsbD k = ((readEr s erd).getLsbD k ^^ (readEr s ers).getLsbD k)) ∧
    (∀ rd, ∃ v, GivesR8 (.notB rd) s rd v (signZeroClearV v) ∧ v.toNat = 2 ^ 8 - 1 - (readR8 s rd).toNat) ∧
    (∀ rd, ∃ v, GivesR16 (.notW rd) s rd v (signZeroClearV v) ∧ v.toNat = 2 ^ 16 - 1 - (readR16 s rd).toNat) ∧
    (∀ erd, ∃ v, GivesEr (.notL erd) s erd v (signZeroClearV v) ∧ v.toNat = 2 ^ 32 - 1 - (readEr s erd).toNat)

/-- The eight shifts and rotates in three sizes, as arithmetic on integers: result, flags and frame (spec rules R300,
R301, R302, R303, R304, R305, R306, R307, R308, R33). Rests on the model's choice in log 22. -/
def Obligations.ShiftsAndRotates : Prop :=
  ∀ s : State,
    (∀ rd, GivesR8 (.shalB rd) s rd (doubledSigned (readR8 s rd)).1
      (shiftFlags (doubledSigned (readR8 s rd)))) ∧
    (∀ rd, GivesR16 (.shalW rd) s rd (doubledSigned (readR16 s rd)).1
      (shiftFlags (doubledSigned (readR16 s rd)))) ∧
    (∀ erd, GivesEr (.shalL erd) s erd (doubledSigned (readEr s erd)).1
      (shiftFlags (doubledSigned (readEr s erd)))) ∧
    (∀ rd, GivesR8 (.sharB rd) s rd (halvedSigned (readR8 s rd)).1
      (shiftFlags (halvedSigned (readR8 s rd)))) ∧
    (∀ rd, GivesR16 (.sharW rd) s rd (halvedSigned (readR16 s rd)).1
      (shiftFlags (halvedSigned (readR16 s rd)))) ∧
    (∀ erd, GivesEr (.sharL erd) s erd (halvedSigned (readEr s erd)).1
      (shiftFlags (halvedSigned (readEr s erd)))) ∧
    (∀ rd, GivesR8 (.shllB rd) s rd (doubled (readR8 s rd) false).1
      (shiftFlags (doubled (readR8 s rd) false))) ∧
    (∀ rd, GivesR16 (.shllW rd) s rd (doubled (readR16 s rd) false).1
      (shiftFlags (doubled (readR16 s rd) false))) ∧
    (∀ erd, GivesEr (.shllL erd) s erd (doubled (readEr s erd) false).1
      (shiftFlags (doubled (readEr s erd) false))) ∧
    (∀ rd, GivesR8 (.shlrB rd) s rd (halved (readR8 s rd) false).1
      (shiftFlags (halved (readR8 s rd) false))) ∧
    (∀ rd, GivesR16 (.shlrW rd) s rd (halved (readR16 s rd) false).1
      (shiftFlags (halved (readR16 s rd) false))) ∧
    (∀ erd, GivesEr (.shlrL erd) s erd (halved (readEr s erd) false).1
      (shiftFlags (halved (readEr s erd) false))) ∧
    (∀ rd, GivesR8 (.rotlB rd) s rd (doubled (readR8 s rd) (isTop (readR8 s rd))).1
      (shiftFlags (doubled (readR8 s rd) (isTop (readR8 s rd))))) ∧
    (∀ rd, GivesR16 (.rotlW rd) s rd (doubled (readR16 s rd) (isTop (readR16 s rd))).1
      (shiftFlags (doubled (readR16 s rd) (isTop (readR16 s rd))))) ∧
    (∀ erd, GivesEr (.rotlL erd) s erd (doubled (readEr s erd) (isTop (readEr s erd))).1
      (shiftFlags (doubled (readEr s erd) (isTop (readEr s erd))))) ∧
    (∀ rd, GivesR8 (.rotrB rd) s rd (halved (readR8 s rd) (decide ((readR8 s rd).toNat % 2 = 1))).1
      (shiftFlags (halved (readR8 s rd) (decide ((readR8 s rd).toNat % 2 = 1))))) ∧
    (∀ rd, GivesR16 (.rotrW rd) s rd (halved (readR16 s rd) (decide ((readR16 s rd).toNat % 2 = 1))).1
      (shiftFlags (halved (readR16 s rd) (decide ((readR16 s rd).toNat % 2 = 1))))) ∧
    (∀ erd, GivesEr (.rotrL erd) s erd (halved (readEr s erd) (decide ((readEr s erd).toNat % 2 = 1))).1
      (shiftFlags (halved (readEr s erd) (decide ((readEr s erd).toNat % 2 = 1))))) ∧
    (∀ rd, GivesR8 (.rotxlB rd) s rd (doubled (readR8 s rd) (ccrGet s.ccr .c)).1
      (shiftFlags (doubled (readR8 s rd) (ccrGet s.ccr .c)))) ∧
    (∀ rd, GivesR16 (.rotxlW rd) s rd (doubled (readR16 s rd) (ccrGet s.ccr .c)).1
      (shiftFlags (doubled (readR16 s rd) (ccrGet s.ccr .c)))) ∧
    (∀ erd, GivesEr (.rotxlL erd) s erd (doubled (readEr s erd) (ccrGet s.ccr .c)).1
      (shiftFlags (doubled (readEr s erd) (ccrGet s.ccr .c)))) ∧
    (∀ rd, GivesR8 (.rotxrB rd) s rd (halved (readR8 s rd) (ccrGet s.ccr .c)).1
      (shiftFlags (halved (readR8 s rd) (ccrGet s.ccr .c)))) ∧
    (∀ rd, GivesR16 (.rotxrW rd) s rd (halved (readR16 s rd) (ccrGet s.ccr .c)).1
      (shiftFlags (halved (readR16 s rd) (ccrGet s.ccr .c)))) ∧
    (∀ erd, GivesEr (.rotxrL erd) s erd (halved (readEr s erd) (ccrGet s.ccr .c)).1
      (shiftFlags (halved (readEr s erd) (ccrGet s.ccr .c))))

/-- ROTL and ROTR undo each other; ROTXL and ROTXR undo each other, C included (spec rule R310). -/
def Obligations.RotatesInvert : Prop :=
  ∀ s : State,
    (∀ rd, ∃ t u, exec (.rotlB rd) s = .next t ∧ exec (.rotrB rd) t = .next u ∧ u.er = s.er) ∧
    (∀ rd, ∃ t u, exec (.rotlW rd) s = .next t ∧ exec (.rotrW rd) t = .next u ∧ u.er = s.er) ∧
    (∀ erd, ∃ t u, exec (.rotlL erd) s = .next t ∧ exec (.rotrL erd) t = .next u ∧ u.er = s.er) ∧
    (∀ rd, ∃ t u, exec (.rotrB rd) s = .next t ∧ exec (.rotlB rd) t = .next u ∧ u.er = s.er) ∧
    (∀ rd, ∃ t u, exec (.rotrW rd) s = .next t ∧ exec (.rotlW rd) t = .next u ∧ u.er = s.er) ∧
    (∀ erd, ∃ t u, exec (.rotrL erd) s = .next t ∧ exec (.rotlL erd) t = .next u ∧ u.er = s.er) ∧
    (∀ rd, ∃ t u, exec (.rotxlB rd) s = .next t ∧ exec (.rotxrB rd) t = .next u ∧ u.er = s.er ∧
        ccrGet u.ccr .c = ccrGet s.ccr .c) ∧
    (∀ rd, ∃ t u, exec (.rotxlW rd) s = .next t ∧ exec (.rotxrW rd) t = .next u ∧ u.er = s.er ∧
        ccrGet u.ccr .c = ccrGet s.ccr .c) ∧
    (∀ erd, ∃ t u, exec (.rotxlL erd) s = .next t ∧ exec (.rotxrL erd) t = .next u ∧ u.er = s.er ∧
        ccrGet u.ccr .c = ccrGet s.ccr .c) ∧
    (∀ rd, ∃ t u, exec (.rotxrB rd) s = .next t ∧ exec (.rotxlB rd) t = .next u ∧ u.er = s.er ∧
        ccrGet u.ccr .c = ccrGet s.ccr .c) ∧
    (∀ rd, ∃ t u, exec (.rotxrW rd) s = .next t ∧ exec (.rotxlW rd) t = .next u ∧ u.er = s.er ∧
        ccrGet u.ccr .c = ccrGet s.ccr .c) ∧
    (∀ erd, ∃ t u, exec (.rotxrL erd) s = .next t ∧ exec (.rotxlL erd) t = .next u ∧ u.er = s.er ∧
        ccrGet u.ccr .c = ccrGet s.ccr .c)

/-- BSET, BCLR, BNOT, BST, BIST on a register: the one bit changed, no flag, and the frame (spec rules R320, R321,
R322, R323, R333, R334). -/
def Obligations.BitChangeInRegister : Prop :=
  ∀ s : State,
    (∀ bit rd, GivesR8 (.bsetImmReg bit rd) s rd (setBitTo (readR8 s rd) bit true) []) ∧
    (∀ rn rd, GivesR8 (.bsetRnReg rn rd) s rd
      (setBitTo (readR8 s rd) (bitNumber s rn) true) []) ∧
    (∀ bit rd, GivesR8 (.bclrImmReg bit rd) s rd (setBitTo (readR8 s rd) bit false) []) ∧
    (∀ rn rd, GivesR8 (.bclrRnReg rn rd) s rd
      (setBitTo (readR8 s rd) (bitNumber s rn) false) []) ∧
    (∀ bit rd, GivesR8 (.bnotImmReg bit rd) s rd (setBitTo (readR8 s rd) bit (!hasBit (readR8 s rd) bit)) []) ∧
    (∀ rn rd, GivesR8 (.bnotRnReg rn rd) s rd
      (setBitTo (readR8 s rd) (bitNumber s rn) (!hasBit (readR8 s rd) (bitNumber s rn))) []) ∧
    (∀ bit rd, GivesR8 (.bstReg bit rd) s rd (setBitTo (readR8 s rd) bit (ccrGet s.ccr .c)) []) ∧
    (∀ bit rd, GivesR8 (.bistReg bit rd) s rd (setBitTo (readR8 s rd) bit (!ccrGet s.ccr .c)) [])

/-- BSET, BCLR, BNOT, BST, BIST on memory: the byte rewritten with one bit changed (the reading of the spec, G16), and
the frame (spec rules R320, R321, R322, R323, R333, R334). That the byte is read whole and rewritten with its seven
other bits is the spec's own reading, from general knowledge (R320, G16, log 39). -/
def Obligations.BitChangeInMemory : Prop :=
  ∀ s : State,
    (∀ (bit : BitVec 3) (erd : ErNum) b, readByte s (eaInd s erd) = .next b → Writable s [(eaInd s erd, b)] →
      Stores (.bsetImmInd bit erd) s [(eaInd s erd, setBitTo b bit true)] []) ∧
    (∀ (bit : BitVec 3) (abs : Byte) b, readByte s (eaAbs8 abs) = .next b → Writable s [(eaAbs8 abs, b)] →
      Stores (.bsetImmAbs8 bit abs) s [(eaAbs8 abs, setBitTo b bit true)] []) ∧
    (∀ (rn : RegNum) (erd : ErNum) b, readByte s (eaInd s erd) = .next b → Writable s [(eaInd s erd, b)] →
      Stores (.bsetRnInd rn erd) s [(eaInd s erd, setBitTo b (bitNumber s rn) true)] []) ∧
    (∀ (rn : RegNum) (abs : Byte) b, readByte s (eaAbs8 abs) = .next b → Writable s [(eaAbs8 abs, b)] →
      Stores (.bsetRnAbs8 rn abs) s [(eaAbs8 abs, setBitTo b (bitNumber s rn) true)] []) ∧
    (∀ (bit : BitVec 3) (erd : ErNum) b, readByte s (eaInd s erd) = .next b → Writable s [(eaInd s erd, b)] →
      Stores (.bclrImmInd bit erd) s [(eaInd s erd, setBitTo b bit false)] []) ∧
    (∀ (bit : BitVec 3) (abs : Byte) b, readByte s (eaAbs8 abs) = .next b → Writable s [(eaAbs8 abs, b)] →
      Stores (.bclrImmAbs8 bit abs) s [(eaAbs8 abs, setBitTo b bit false)] []) ∧
    (∀ (rn : RegNum) (erd : ErNum) b, readByte s (eaInd s erd) = .next b → Writable s [(eaInd s erd, b)] →
      Stores (.bclrRnInd rn erd) s [(eaInd s erd, setBitTo b (bitNumber s rn) false)] []) ∧
    (∀ (rn : RegNum) (abs : Byte) b, readByte s (eaAbs8 abs) = .next b → Writable s [(eaAbs8 abs, b)] →
      Stores (.bclrRnAbs8 rn abs) s [(eaAbs8 abs, setBitTo b (bitNumber s rn) false)] []) ∧
    (∀ (bit : BitVec 3) (erd : ErNum) b, readByte s (eaInd s erd) = .next b → Writable s [(eaInd s erd, b)] →
      Stores (.bnotImmInd bit erd) s [(eaInd s erd, setBitTo b bit (!hasBit b bit))] []) ∧
    (∀ (bit : BitVec 3) (abs : Byte) b, readByte s (eaAbs8 abs) = .next b → Writable s [(eaAbs8 abs, b)] →
      Stores (.bnotImmAbs8 bit abs) s [(eaAbs8 abs, setBitTo b bit (!hasBit b bit))] []) ∧
    (∀ (rn : RegNum) (erd : ErNum) b, readByte s (eaInd s erd) = .next b → Writable s [(eaInd s erd, b)] →
      Stores (.bnotRnInd rn erd) s [(eaInd s erd, setBitTo b (bitNumber s rn) (!hasBit b (bitNumber s rn)))] []) ∧
    (∀ (rn : RegNum) (abs : Byte) b, readByte s (eaAbs8 abs) = .next b → Writable s [(eaAbs8 abs, b)] →
      Stores (.bnotRnAbs8 rn abs) s [(eaAbs8 abs, setBitTo b (bitNumber s rn) (!hasBit b (bitNumber s rn)))] []) ∧
    (∀ (bit : BitVec 3) (erd : ErNum) b, readByte s (eaInd s erd) = .next b → Writable s [(eaInd s erd, b)] →
      Stores (.bstInd bit erd) s [(eaInd s erd, setBitTo b bit (ccrGet s.ccr .c))] []) ∧
    (∀ (bit : BitVec 3) (abs : Byte) b, readByte s (eaAbs8 abs) = .next b → Writable s [(eaAbs8 abs, b)] →
      Stores (.bstAbs8 bit abs) s [(eaAbs8 abs, setBitTo b bit (ccrGet s.ccr .c))] []) ∧
    (∀ (bit : BitVec 3) (erd : ErNum) b, readByte s (eaInd s erd) = .next b → Writable s [(eaInd s erd, b)] →
      Stores (.bistInd bit erd) s [(eaInd s erd, setBitTo b bit (!ccrGet s.ccr .c))] []) ∧
    (∀ (bit : BitVec 3) (abs : Byte) b, readByte s (eaAbs8 abs) = .next b → Writable s [(eaAbs8 abs, b)] →
      Stores (.bistAbs8 bit abs) s [(eaAbs8 abs, setBitTo b bit (!ccrGet s.ccr .c))] [])

/-- BTST: Z is the inverse of the specified bit, and nothing else changes (spec rules R320, R324). Rests on the
model's choice in log 22. -/
def Obligations.BitTest : Prop :=
  ∀ s : State,
    (∀ bit rd, GivesFlags (.btstImmReg bit rd) s [(.z, !hasBit (readR8 s rd) bit)]) ∧
    (∀ rn rd, GivesFlags (.btstRnReg rn rd) s [(.z, !hasBit (readR8 s rd) (bitNumber s rn))]) ∧
    (∀ bit (erd : ErNum) b, readByte s (eaInd s erd) = .next b → GivesFlags (.btstImmInd bit erd) s [(.z,
        !hasBit b bit)]) ∧
    (∀ rn (erd : ErNum) b, readByte s (eaInd s erd) = .next b → GivesFlags (.btstRnInd rn erd) s [(.z,
        !hasBit b (bitNumber s rn))]) ∧
    (∀ bit (abs : Byte) b, readByte s (eaAbs8 abs) = .next b → GivesFlags (.btstImmAbs8 bit abs) s [(.z,
        !hasBit b bit)]) ∧
    (∀ rn (abs : Byte) b, readByte s (eaAbs8 abs) = .next b → GivesFlags (.btstRnAbs8 rn abs) s [(.z,
        !hasBit b (bitNumber s rn))])

/-- BAND, BIAND, BOR, BIOR, BXOR, BIXOR, BLD, BILD: C from C and the specified bit, nothing else (spec rules R320,
R325, R326, R327, R328, R329, R330, R331, R332). -/
def Obligations.BitToCarry : Prop :=
  ∀ s : State,
    (∀ bit rd, GivesFlags (.bandReg bit rd) s [(.c, (ccrGet s.ccr .c && hasBit (readR8 s rd) bit))]) ∧
    (∀ bit (erd : ErNum) b, readByte s (eaInd s erd) = .next b → GivesFlags (.bandInd bit erd) s [(.c,
        (ccrGet s.ccr .c && hasBit b bit))]) ∧
    (∀ bit (abs : Byte) b, readByte s (eaAbs8 abs) = .next b → GivesFlags (.bandAbs8 bit abs) s [(.c,
        (ccrGet s.ccr .c && hasBit b bit))]) ∧
    (∀ bit rd, GivesFlags (.biandReg bit rd) s [(.c, (ccrGet s.ccr .c && !hasBit (readR8 s rd) bit))]) ∧
    (∀ bit (erd : ErNum) b, readByte s (eaInd s erd) = .next b → GivesFlags (.biandInd bit erd) s [(.c,
        (ccrGet s.ccr .c && !hasBit b bit))]) ∧
    (∀ bit (abs : Byte) b, readByte s (eaAbs8 abs) = .next b → GivesFlags (.biandAbs8 bit abs) s [(.c,
        (ccrGet s.ccr .c && !hasBit b bit))]) ∧
    (∀ bit rd, GivesFlags (.borReg bit rd) s [(.c, (ccrGet s.ccr .c || hasBit (readR8 s rd) bit))]) ∧
    (∀ bit (erd : ErNum) b, readByte s (eaInd s erd) = .next b → GivesFlags (.borInd bit erd) s [(.c,
        (ccrGet s.ccr .c || hasBit b bit))]) ∧
    (∀ bit (abs : Byte) b, readByte s (eaAbs8 abs) = .next b → GivesFlags (.borAbs8 bit abs) s [(.c,
        (ccrGet s.ccr .c || hasBit b bit))]) ∧
    (∀ bit rd, GivesFlags (.biorReg bit rd) s [(.c, (ccrGet s.ccr .c || !hasBit (readR8 s rd) bit))]) ∧
    (∀ bit (erd : ErNum) b, readByte s (eaInd s erd) = .next b → GivesFlags (.biorInd bit erd) s [(.c,
        (ccrGet s.ccr .c || !hasBit b bit))]) ∧
    (∀ bit (abs : Byte) b, readByte s (eaAbs8 abs) = .next b → GivesFlags (.biorAbs8 bit abs) s [(.c,
        (ccrGet s.ccr .c || !hasBit b bit))]) ∧
    (∀ bit rd, GivesFlags (.bxorReg bit rd) s [(.c, (ccrGet s.ccr .c ^^ hasBit (readR8 s rd) bit))]) ∧
    (∀ bit (erd : ErNum) b, readByte s (eaInd s erd) = .next b → GivesFlags (.bxorInd bit erd) s [(.c,
        (ccrGet s.ccr .c ^^ hasBit b bit))]) ∧
    (∀ bit (abs : Byte) b, readByte s (eaAbs8 abs) = .next b → GivesFlags (.bxorAbs8 bit abs) s [(.c,
        (ccrGet s.ccr .c ^^ hasBit b bit))]) ∧
    (∀ bit rd, GivesFlags (.bixorReg bit rd) s [(.c, (ccrGet s.ccr .c ^^ !hasBit (readR8 s rd) bit))]) ∧
    (∀ bit (erd : ErNum) b, readByte s (eaInd s erd) = .next b → GivesFlags (.bixorInd bit erd) s [(.c,
        (ccrGet s.ccr .c ^^ !hasBit b bit))]) ∧
    (∀ bit (abs : Byte) b, readByte s (eaAbs8 abs) = .next b → GivesFlags (.bixorAbs8 bit abs) s [(.c,
        (ccrGet s.ccr .c ^^ !hasBit b bit))]) ∧
    (∀ bit rd, GivesFlags (.bldReg bit rd) s [(.c, hasBit (readR8 s rd) bit)]) ∧
    (∀ bit (erd : ErNum) b, readByte s (eaInd s erd) = .next b → GivesFlags (.bldInd bit erd) s [(.c,
        hasBit b bit)]) ∧
    (∀ bit (abs : Byte) b, readByte s (eaAbs8 abs) = .next b → GivesFlags (.bldAbs8 bit abs) s [(.c, hasBit b bit)]) ∧
    (∀ bit rd, GivesFlags (.bildReg bit rd) s [(.c, (!hasBit (readR8 s rd) bit))]) ∧
    (∀ bit (erd : ErNum) b, readByte s (eaInd s erd) = .next b → GivesFlags (.bildInd bit erd) s [(.c,
        (!hasBit b bit))]) ∧
    (∀ bit (abs : Byte) b, readByte s (eaAbs8 abs) = .next b → GivesFlags (.bildAbs8 bit abs) s [(.c,
        (!hasBit b bit))])

/-- The sixteen Bcc in both forms: taken to the target, not taken, or refused for an odd target (spec rules R361,
R362, R363, R364, R365, R366, R367, R368, R369, R372, R376, R92). Rests on the model's choices in logs 16 and 37. -/
def Obligations.ConditionalBranches : Prop :=
  ∀ (s : State) (d : BranchDisp),
    ∀ p ∈ ([(.bra d, true), (.brn d, false), (.bhi d, !(ccrGet s.ccr .c || ccrGet s.ccr .z)),
        (.bls d, ccrGet s.ccr .c || ccrGet s.ccr .z), (.bcc d, !ccrGet s.ccr .c), (.bcs d, ccrGet s.ccr .c),
        (.bne d, !ccrGet s.ccr .z), (.beq d, ccrGet s.ccr .z), (.bvc d, !ccrGet s.ccr .v), (.bvs d, ccrGet s.ccr .v),
        (.bpl d, !ccrGet s.ccr .n), (.bmi d, ccrGet s.ccr .n), (.bge d, !(ccrGet s.ccr .n ^^ ccrGet s.ccr .v)),
        (.blt d, ccrGet s.ccr .n ^^ ccrGet s.ccr .v),
        (.bgt d, !(ccrGet s.ccr .z || (ccrGet s.ccr .n ^^ ccrGet s.ccr .v))),
        (.ble d, ccrGet s.ccr .z || (ccrGet s.ccr .n ^^ ccrGet s.ccr .v))] : List (Instr × Bool)),
      (p.2 = true → (branchTarget s d).toNat % 2 = 0 →
        Completes p.1 s [] [] fun t => t.er = s.er ∧ t.pc = branchTarget s d) ∧
      (p.2 = true → (branchTarget s d).toNat % 2 = 1 → exec p.1 s = .refused .oddTarget) ∧
      (p.2 = false → Completes p.1 s [] [] fun t => t.er = s.er ∧ t.pc = s.pc)

/-- After CMP src,dst the conditions of Bcc compare dst with src, unsigned and signed (spec rules R361, R16). Rests on
the model's choice in log 22. -/
def Obligations.ConditionsAfterCompare : Prop :=
  ∀ s : State,
    (∀ rs rd, ∃ t, exec (.cmpBReg rs rd) s = .next t ∧
      Cond.holds .bhi t.ccr = decide ((readR8 s rd).toNat > (readR8 s rs).toNat) ∧
          Cond.holds .bls t.ccr = decide ((readR8 s rd).toNat ≤ (readR8 s rs).toNat) ∧
      Cond.holds .bcc t.ccr = decide ((readR8 s rd).toNat ≥ (readR8 s rs).toNat) ∧
          Cond.holds .bcs t.ccr = decide ((readR8 s rd).toNat < (readR8 s rs).toNat) ∧
      Cond.holds .bne t.ccr = decide ((readR8 s rd) ≠ (readR8 s rs)) ∧
          Cond.holds .beq t.ccr = decide ((readR8 s rd) = (readR8 s rs)) ∧
      Cond.holds .bge t.ccr = decide ((readR8 s rd).toInt ≥ (readR8 s rs).toInt) ∧
          Cond.holds .blt t.ccr = decide ((readR8 s rd).toInt < (readR8 s rs).toInt) ∧
      Cond.holds .bgt t.ccr = decide ((readR8 s rd).toInt > (readR8 s rs).toInt) ∧
          Cond.holds .ble t.ccr = decide ((readR8 s rd).toInt ≤ (readR8 s rs).toInt)) ∧
    (∀ rs rd, ∃ t, exec (.cmpWReg rs rd) s = .next t ∧
      Cond.holds .bhi t.ccr = decide ((readR16 s rd).toNat > (readR16 s rs).toNat) ∧
          Cond.holds .bls t.ccr = decide ((readR16 s rd).toNat ≤ (readR16 s rs).toNat) ∧
      Cond.holds .bcc t.ccr = decide ((readR16 s rd).toNat ≥ (readR16 s rs).toNat) ∧
          Cond.holds .bcs t.ccr = decide ((readR16 s rd).toNat < (readR16 s rs).toNat) ∧
      Cond.holds .bne t.ccr = decide ((readR16 s rd) ≠ (readR16 s rs)) ∧
          Cond.holds .beq t.ccr = decide ((readR16 s rd) = (readR16 s rs)) ∧
      Cond.holds .bge t.ccr = decide ((readR16 s rd).toInt ≥ (readR16 s rs).toInt) ∧
          Cond.holds .blt t.ccr = decide ((readR16 s rd).toInt < (readR16 s rs).toInt) ∧
      Cond.holds .bgt t.ccr = decide ((readR16 s rd).toInt > (readR16 s rs).toInt) ∧
          Cond.holds .ble t.ccr = decide ((readR16 s rd).toInt ≤ (readR16 s rs).toInt)) ∧
    (∀ ers erd, ∃ t, exec (.cmpLReg ers erd) s = .next t ∧
      Cond.holds .bhi t.ccr = decide ((readEr s erd).toNat > (readEr s ers).toNat) ∧
          Cond.holds .bls t.ccr = decide ((readEr s erd).toNat ≤ (readEr s ers).toNat) ∧
      Cond.holds .bcc t.ccr = decide ((readEr s erd).toNat ≥ (readEr s ers).toNat) ∧
          Cond.holds .bcs t.ccr = decide ((readEr s erd).toNat < (readEr s ers).toNat) ∧
      Cond.holds .bne t.ccr = decide ((readEr s erd) ≠ (readEr s ers)) ∧
          Cond.holds .beq t.ccr = decide ((readEr s erd) = (readEr s ers)) ∧
      Cond.holds .bge t.ccr = decide ((readEr s erd).toInt ≥ (readEr s ers).toInt) ∧
          Cond.holds .blt t.ccr = decide ((readEr s erd).toInt < (readEr s ers).toInt) ∧
      Cond.holds .bgt t.ccr = decide ((readEr s erd).toInt > (readEr s ers).toInt) ∧
          Cond.holds .ble t.ccr = decide ((readEr s erd).toInt ≤ (readEr s ers).toInt))

/-- JMP in three forms: PC becomes the even target, and nothing else changes (spec rules R378, R93, R360). Rests on
the model's choices in logs 16 and 19. -/
def Obligations.Jumps : Prop :=
  ∀ s : State,
    (∀ ern, (readEr s ern).toNat % 2 = 0 →
      Completes (.jmpInd ern) s [] [] fun t => t.er = s.er ∧ t.pc.toNat = (readEr s ern).toNat % 2 ^ 24) ∧
    (∀ abs, abs.toNat % 2 = 0 → Completes (.jmpAbs24 abs) s [] [] fun t => t.er = s.er ∧ t.pc = abs) ∧
    (∀ (abs : Byte) w, s.platform.mode = .advanced → readLong s (BitVec.ofNat 24 abs.toNat) = .next w →
        w.toNat % 2 = 0 →
      Completes (.jmpMemInd abs) s [] [] fun t => t.er = s.er ∧ t.pc.toNat = w.toNat % 2 ^ 24) ∧
    (∀ (abs : Byte) w, s.platform.mode = .normal → readWord s (BitVec.ofNat 24 abs.toNat) = .next w →
        w.toNat % 2 = 0 →
      Completes (.jmpMemInd abs) s [] [] fun t => t.er = s.er ∧ t.pc.toNat = w.toNat)

/-- BSR and JSR: the return address on the stack, SP, PC and the frame (spec rules R360, R379, R380, R93). Rests on
the model's choices in logs 8, 15, 16, 36 and 37. -/
def Obligations.SubroutineCalls : Prop :=
  ∀ s : State, Writable s (returnCells s.platform (addrOf (pushedSp s (returnSize s.platform))) 0#8 s.pc) →
    (∀ d, (branchTarget s d).toNat % 2 = 0 →
      ∃ any, Completes (.bsr d) s [] (returnCells s.platform (addrOf (pushedSp s
          (returnSize s.platform))) any s.pc) fun t =>
        OnlyEr s t spNum (pushedSp s (returnSize s.platform)) ∧ t.pc = branchTarget s d) ∧
    (∀ ern, ern ≠ spNum → (eaInd s ern).toNat % 2 = 0 →
      ∃ any, Completes (.jsrInd ern) s [] (returnCells s.platform (addrOf (pushedSp s
          (returnSize s.platform))) any s.pc) fun t =>
        OnlyEr s t spNum (pushedSp s (returnSize s.platform)) ∧ t.pc = eaInd s ern) ∧
    (∀ abs, abs.toNat % 2 = 0 →
      ∃ any, Completes (.jsrAbs24 abs) s [] (returnCells s.platform (addrOf (pushedSp s
          (returnSize s.platform))) any s.pc) fun t =>
        OnlyEr s t spNum (pushedSp s (returnSize s.platform)) ∧ t.pc = abs) ∧
    (∀ abs target, memIndTarget s abs = .next target → target.toNat % 2 = 0 →
      ∃ any, Completes (.jsrMemInd abs) s [] (returnCells s.platform (addrOf (pushedSp s
          (returnSize s.platform))) any s.pc) fun t =>
        OnlyEr s t spNum (pushedSp s (returnSize s.platform)) ∧ t.pc = target)

/-- RTS: PC from the stack, SP up by the slot, and nothing else (spec rules R381, R360). Rests on the model's choice
in log 16. -/
def Obligations.ReturnFromSubroutine : Prop :=
  ∀ s : State,
    (∀ w, s.platform.mode = .advanced → readLong s (eaInd s spNum) = .next w → w.toNat % 2 = 0 →
      Completes .rts s [] [] fun t => OnlyEr s t spNum (readEr s spNum + 4#32) ∧ t.pc.toNat = w.toNat % 2 ^ 24) ∧
    (∀ w, s.platform.mode = .normal → readWord s (eaInd s spNum) = .next w → w.toNat % 2 = 0 →
      Completes .rts s [] [] fun t => OnlyEr s t spNum (readEr s spNum + 2#32) ∧ t.pc.toNat = w.toNat)

/-- BSR or JSR followed by RTS resumes after the call with every register restored (spec rules R382, R379, R380,
R381). Rests on the model's choices in logs 8, 15, 16 and 36. -/
def Obligations.CallThenReturn : Prop :=
  ∀ s : State, s.pc.toNat % 2 = 0 → Writable s (returnCells s.platform (addrOf (pushedSp s
      (returnSize s.platform))) 0#8 s.pc) →
    ∀ i : Instr,
      ((∃ d, i = .bsr d ∧ (branchTarget s d).toNat % 2 = 0) ∨
        (∃ ern, i = .jsrInd ern ∧ ern ≠ spNum ∧ (eaInd s ern).toNat % 2 = 0) ∨
        (∃ abs, i = .jsrAbs24 abs ∧ abs.toNat % 2 = 0) ∨
        (∃ abs target, i = .jsrMemInd abs ∧ memIndTarget s abs = .next target ∧ target.toNat % 2 = 0)) →
      ∃ t u, exec i s = .next t ∧ exec .rts t = .next u ∧ u.pc.toNat = busAddr s.platform s.pc ∧ u.er = s.er ∧
        u.ccr = s.ccr

/-- JMP, BSR, JSR, RTS and RTE to an odd address are refused by name, in both modes (spec rules R360, R42, R378, R379,
R380, R381, R390). Rests on the model's choice in log 16. -/
def Obligations.OddTargetsRefused : Prop :=
  ∀ s : State,
    (∀ ern, (readEr s ern).toNat % 2 = 1 → exec (.jmpInd ern) s = .refused .oddTarget) ∧
    (∀ abs, abs.toNat % 2 = 1 → exec (.jmpAbs24 abs) s = .refused .oddTarget) ∧
    (∀ abs target, memIndTarget s abs = .next target → target.toNat % 2 = 1 →
        exec (.jmpMemInd abs) s = .refused .oddTarget) ∧
    (Writable s (returnCells s.platform (addrOf (pushedSp s (returnSize s.platform))) 0#8 s.pc) →
      (∀ d, (branchTarget s d).toNat % 2 = 1 → exec (.bsr d) s = .refused .oddTarget) ∧
      (∀ ern, ern ≠ spNum → (readEr s ern).toNat % 2 = 1 → exec (.jsrInd ern) s = .refused .oddTarget) ∧
      (∀ abs, abs.toNat % 2 = 1 → exec (.jsrAbs24 abs) s = .refused .oddTarget) ∧
      ∀ abs target, memIndTarget s abs = .next target → target.toNat % 2 = 1 →
        exec (.jsrMemInd abs) s = .refused .oddTarget) ∧
    (∀ w, s.platform.mode = .advanced → readLong s (eaInd s spNum) = .next w → w.toNat % 2 = 1 →
        exec .rts s = .refused .oddTarget) ∧
    (∀ w, s.platform.mode = .normal → readWord s (eaInd s spNum) = .next w → w.toNat % 2 = 1 →
        exec .rts s = .refused .oddTarget) ∧
    (∀ w, readLong s (eaInd s spNum) = .next w → w.toNat % 2 = 1 → exec .rte s = .refused .oddTarget)

/-- TRAPA: CCR and PC saved in the frame, I set, PC from the vector, and nothing else (spec rules R401, R445, R97,
R51). Rests on the model's choices in logs 8, 18 and 19. -/
def Obligations.TrapEntry : Prop :=
  ∀ (s : State) (k : BitVec 2) (target : Addr), s.sleeping = false → EntryReady s (trapVector k) target →
    ∃ any, Completes (.trapa k) s [(.i, true)] (frameCells s.platform (addrOf (pushedSp s 4)) s.ccr any s.pc) fun t =>
      OnlyEr s t spNum (pushedSp s 4) ∧ t.pc = target

/-- RTE: all eight CCR bits and PC from the frame, SP up by 4, and nothing else (spec rules R390, R448). Rests on the
model's choices in logs 16 and 18. -/
def Obligations.ReturnFromException : Prop :=
  ∀ s : State,
    (∀ w, s.platform.mode = .advanced → readLong s (eaInd s spNum) = .next w → w.toNat % 2 = 0 →
      Completes .rte s
        [(.i, w.getLsbD 31), (.ui, w.getLsbD 30), (.h, w.getLsbD 29), (.u, w.getLsbD 28),
          (.n, w.getLsbD 27), (.z, w.getLsbD 26), (.v, w.getLsbD 25), (.c, w.getLsbD 24)] []
        fun t => OnlyEr s t spNum (readEr s spNum + 4#32) ∧ t.pc.toNat = w.toNat % 2 ^ 24) ∧
    (∀ w, s.platform.mode = .normal → readLong s (eaInd s spNum) = .next w → w.toNat % 2 = 0 →
      Completes .rte s
        [(.i, w.getLsbD 31), (.ui, w.getLsbD 30), (.h, w.getLsbD 29), (.u, w.getLsbD 28),
          (.n, w.getLsbD 27), (.z, w.getLsbD 26), (.v, w.getLsbD 25), (.c, w.getLsbD 24)] []
        fun t => OnlyEr s t spNum (readEr s spNum + 4#32) ∧ t.pc.toNat = w.toNat % 2 ^ 16)

/-- TRAPA followed by RTE resumes after the TRAPA with CCR and every register restored (spec rules R402, R401, R390).
Rests on the model's choices in logs 8, 18 and 19. -/
def Obligations.TrapThenReturn : Prop :=
  ∀ (s : State) (k : BitVec 2) (target : Addr), s.sleeping = false → s.pc.toNat % 2 = 0 →
    EntryReady s (trapVector k) target →
    ∃ t u, exec (.trapa k) s = .next t ∧ exec .rte t = .next u ∧ u.pc.toNat = busAddr s.platform s.pc ∧
      u.ccr = s.ccr ∧ u.er = s.er

/-- A step with an accepted request is its exception entry: frame, I, PC, sleep ended, and the frame rule (spec rules
R444, R445, R97). Rests on the model's choices in logs 8, 9, 18 and 19. -/
def Obligations.InterruptAccepted : Prop :=
  ∀ (s : State) (r : Request) (target : Addr), s.startPending = false → acceptedRequest s = some r →
    EntryReady s r.vector target →
    ∃ t any, step s = .next t ∧ OnlyEr s t spNum (pushedSp s 4) ∧ FlagsAfter s t [(.i, true)] ∧
      MemoryAfter s t (frameCells s.platform (addrOf (pushedSp s 4)) s.ccr any s.pc) ∧ t.pc = target ∧
      t.sleeping = false ∧ t.irq = s.irq.tail ∧ t.startPending = false ∧ t.platform = s.platform

/-- With I = 1 and no non-maskable request a step takes no interrupt: it runs the next instruction or stays asleep
(spec rules R441, R444, R391). Rests on the model's choices in logs 9 and 24. -/
def Obligations.MaskedRequestsHeld : Prop :=
  ∀ s : State, s.startPending = false → s.platform.uiIsMask = false → ccrGet s.ccr .i = true →
    (∀ r ∈ s.irq.headD [], r.nmi = false) →
    (s.sleeping = true → step s = .next (s.setIrq s.irq.tail)) ∧
      (s.sleeping = false → step s = step (s.setIrq ([] :: s.irq.tail)))

/-- Which request a check accepts: one presented and acceptable, a non-maskable one if there is one (spec rules R441,
R442, R444, R446). Rests on the model's choices in logs 9 and 10. -/
def Obligations.RequestChosen : Prop :=
  ∀ s : State,
    ((∃ r, acceptedRequest s = some r) ↔ ∃ r ∈ s.irq.headD [], acceptable s r = true) ∧
    (∀ r, acceptedRequest s = some r → r ∈ s.irq.headD [] ∧ acceptable s r = true ∧
      ((∃ q ∈ s.irq.headD [], q.nmi = true) → r.nmi = true)) ∧
    (s.platform.uiIsMask = false → ∀ r, acceptable s r = true ↔ r.nmi = true ∨ ccrGet s.ccr .i = false) ∧
    (s.platform.uiIsMask = true → ∀ r,
      (ccrGet s.ccr .i = false → ccrGet s.ccr .ui = false → acceptable s r = true) ∧
      (ccrGet s.ccr .i = true → ccrGet s.ccr .ui = true → (acceptable s r = true ↔ r.nmi = true)))

/-- LDC.B, STC.B, ANDC, ORC, XORC, NOP and SLEEP: what each changes, and nothing else (spec rules R392, R393, R395,
R397, R398, R399, R400, R391). -/
def Obligations.CcrRegisterForms : Prop :=
  ∀ s : State,
    (∀ imm, GivesFlags (.ldcBImm imm) s (ccrBits imm)) ∧
    (∀ rs, GivesFlags (.ldcBReg rs) s (ccrBits (readR8 s rs))) ∧
    (∀ rd, GivesR8 (.stcBReg rd) s rd s.ccr []) ∧
    (∀ imm : Byte, ∃ l, GivesFlags (.andc imm) s l ∧ ∀ f, l.lookup f = some (ccrGet s.ccr f && ccrGet imm f)) ∧
    (∀ imm : Byte, ∃ l, GivesFlags (.orc imm) s l ∧ ∀ f, l.lookup f = some (ccrGet s.ccr f || ccrGet imm f)) ∧
    (∀ imm : Byte, ∃ l, GivesFlags (.xorc imm) s l ∧ ∀ f, l.lookup f = some (ccrGet s.ccr f ^^ ccrGet imm f)) ∧
    (exec .nop s = .next s) ∧
    (∃ t, exec .sleep s = .next t ∧ t.sleeping = true ∧ t.er = s.er ∧ t.ccr = s.ccr ∧ t.pc = s.pc ∧
        MemoryAfter s t [] ∧
      t.irq = s.irq ∧ t.startPending = s.startPending ∧ t.platform = s.platform)

/-- LDC.W: all eight CCR bits from the byte at the even address, and the frame (spec rules R394, R86). Rests on the
model's choice in log 32. -/
def Obligations.LdcFromMemory : Prop :=
  ∀ s : State,
    (∀ (ers : ErNum) w, readWord s (eaInd s ers) = .next w → GivesFlags (.ldcWInd ers) s (ccrBits
        (w.extractLsb' 8 8))) ∧
    (∀ (disp : Word) (ers : ErNum) w, readWord s (eaDisp16 s disp ers) = .next w →
        GivesFlags (.ldcWDisp16 disp ers) s (ccrBits (w.extractLsb' 8 8))) ∧
    (∀ (disp : BitVec 24) (ers : ErNum) w, readWord s (eaDisp24 s disp ers) = .next w →
        GivesFlags (.ldcWDisp24 disp ers) s (ccrBits (w.extractLsb' 8 8))) ∧
    (∀ (abs : Word) w, readWord s (eaAbs16 abs) = .next w → GivesFlags (.ldcWAbs16 abs) s (ccrBits
        (w.extractLsb' 8 8))) ∧
    (∀ (abs : BitVec 24) w, readWord s (eaAbs24 abs) = .next w → GivesFlags (.ldcWAbs24 abs) s (ccrBits
        (w.extractLsb' 8 8))) ∧
    (∀ (ers : ErNum) w, readWord s (eaInd s ers) = .next w →
      Completes (.ldcWInc ers) s (ccrBits (w.extractLsb' 8 8)) [] fun t =>
        OnlyEr s t ers (readEr s ers + 2#32) ∧ t.pc = s.pc)

/-- STC.W: CCR at the even address, a free value at the odd one, and the frame (spec rules R396, R87). Rests on the
model's choices in logs 8 and 32. -/
def Obligations.StcToMemory : Prop :=
  ∀ s : State,
    (∀ (erd : ErNum), Writable s (wordCells (eaInd s erd) 0#16) →
        ∃ any : Byte, Stores (.stcWInd erd) s (wordCells (eaInd s erd) (s.ccr ++ any)) []) ∧
    (∀ (disp : Word) (erd : ErNum), Writable s (wordCells (eaDisp16 s disp erd) 0#16) →
        ∃ any : Byte, Stores (.stcWDisp16 disp erd) s (wordCells (eaDisp16 s disp erd) (s.ccr ++ any)) []) ∧
    (∀ (disp : BitVec 24) (erd : ErNum), Writable s (wordCells (eaDisp24 s disp erd) 0#16) →
        ∃ any : Byte, Stores (.stcWDisp24 disp erd) s (wordCells (eaDisp24 s disp erd) (s.ccr ++ any)) []) ∧
    (∀ (abs : Word), Writable s (wordCells (eaAbs16 abs) 0#16) → ∃ any : Byte,
        Stores (.stcWAbs16 abs) s (wordCells (eaAbs16 abs) (s.ccr ++ any)) []) ∧
    (∀ (abs : BitVec 24), Writable s (wordCells (eaAbs24 abs) 0#16) →
        ∃ any : Byte, Stores (.stcWAbs24 abs) s (wordCells (eaAbs24 abs) (s.ccr ++ any)) []) ∧
    (∀ erd : ErNum, Writable s (wordCells (addrOf (readEr s erd - 2#32)) 0#16) →
      ∃ any : Byte, StoresAndSets (.stcWDec erd) s (wordCells (addrOf (readEr s erd - 2#32)) (s.ccr ++ any)) erd
        (readEr s erd - 2#32) [])

/-- EEPMOV: the block copied, ER4, ER5, ER6 at the end, flags and frame; and the fill by overlap (spec rules R420,
R421, R422, R423). Rests on the model's choice in log 23. -/
def Obligations.BlockTransfer : Prop :=
  ∀ s : State,
    (∀ b : Nat → Byte, BlockReady s ((readEr s 4#3).toNat % 256) b →
      Completes .eepmovB s [] (blockCells s ((readEr s 4#3).toNat % 256) b) fun t => t.pc = s.pc ∧
        readEr t 4#3 = ((readEr s 4#3).extractLsb' 8 24 ++ 0#8) ∧
            readEr t 5#3 = readEr s 5#3 + BitVec.ofNat 32 ((readEr s 4#3).toNat % 256) ∧
        readEr t 6#3 = readEr s 6#3 + BitVec.ofNat 32 ((readEr s 4#3).toNat % 256) ∧
            ∀ n, n ≠ 4#3 → n ≠ 5#3 → n ≠ 6#3 → readEr t n = readEr s n) ∧
    (∀ b : Nat → Byte, BlockReady s ((readEr s 4#3).toNat % 65536) b →
      Completes .eepmovW s [] (blockCells s ((readEr s 4#3).toNat % 65536) b) fun t => t.pc = s.pc ∧
        readEr t 4#3 = ((readEr s 4#3).extractLsb' 16 16 ++ 0#16) ∧
            readEr t 5#3 = readEr s 5#3 + BitVec.ofNat 32 ((readEr s 4#3).toNat % 65536) ∧
        readEr t 6#3 = readEr s 6#3 + BitVec.ofNat 32 ((readEr s 4#3).toNat % 65536) ∧
            ∀ n, n ≠ 4#3 → n ≠ 5#3 → n ≠ 6#3 → readEr t n = readEr s n) ∧
    (∀ b : Byte, readEr s 6#3 = readEr s 5#3 + 1#32 → readByte s (eaInd s 5#3) = .next b →
      (∀ k < (readEr s 4#3).toNat % 256, classOf s.platform (busAddr s.platform (eaInd s 6#3 +
          BitVec.ofNat 24 k)) = .ram) →
      ∃ t, exec .eepmovB s = .next t ∧
        ∀ k < (readEr s 4#3).toNat % 256, readByte t (eaInd s 6#3 + BitVec.ofNat 24 k) = .next b)

/-- Decoding the encoding of an instruction gives the instruction back, whatever follows it (spec rules R112, R145,
R147, R150, R151). Rests on the model's choices in logs 12, 13 and 14. -/
def Obligations.DecodeReadsEncode : Prop :=
  ∀ (i : Instr) (ign : BitVec 1) (rest : List Byte), i.isAlias = false →
    decode (encodeWith ign i ++ rest) = .ok i (encodeWith ign i).length

/-- Every byte sequence that decodes is the encoding of the instruction it decodes to (spec rules R147, R148, R150,
R151). Rests on the model's choices in logs 12, 13 and 14. -/
def Obligations.EncodeReadsDecode : Prop :=
  ∀ (bytes : List Byte) (i : Instr) (n : Nat), decode bytes = .ok i n →
    i.isAlias = false ∧ ∃ ign, bytes.take n = encodeWith ign i

/-- The length rule agrees with the decoder and with every encoding; lengths are 2, 4, 6, 8 or 10 (spec rules R111,
R144). Rests on the model's choices in logs 12 and 37. -/
def Obligations.LengthRule : Prop :=
  (∀ (bytes : List Byte) (i : Instr) (n : Nat), decode bytes = .ok i n → instrLength bytes = some n ∧
      n ≤ bytes.length) ∧
    ∀ i : Instr, Laws.EncodedLength.Statement i

/-- An instruction whose encoding lies at PC is the one the step runs, with PC moved past it (spec rules R18, R41,
R112, R444). Rests on the model's choices in logs 9, 12, 17 and 27. -/
def Obligations.EncodedInstructionRuns : Prop :=
  ∀ (s : State) (i : Instr) (ign : BitVec 1), i.isAlias = false → s.startPending = false → s.sleeping = false →
    acceptedRequest s = none → s.pc.toNat % 2 = 0 →
    (∀ k (h : k < (encodeWith ign i).length),
      fetchByte s (s.pc + BitVec.ofNat 24 k) = .next ((encodeWith ign i)[k]'h)) →
    step s = exec i (advancePc (afterCheck s) (encodeWith ign i).length)

/-- A step runs the instruction that the bytes at PC decode to, and stops by name where they decode to none or cannot
be fetched (spec rules R18, R42, R105, R148, R444). The refusals are decisions D7 and D14 of the spec (R148, R105);
rests on the model's choices in logs 9, 12, 17 and 27. -/
def Obligations.StepRunsDecoded : Prop :=
  ∀ s : State, s.startPending = false → s.sleeping = false → acceptedRequest s = none →
    (∀ (i : Instr) (n : Nat), decode (codeBytes s maxLength (evenAddr s.pc)) = .ok i n →
      step s = exec i ((s.setIrq s.irq.tail).setPc (s.pc + BitVec.ofNat 24 n))) ∧
    (∀ bytes : List Byte,
      (∀ k (h : k < bytes.length), fetchByte s (evenAddr s.pc + BitVec.ofNat 24 k) = .next (bytes[k]'h)) →
      (bytes.length ≤ maxLength → decode bytes = .undefined → step s = .refused .undefinedEncoding) ∧
      (bytes.length < maxLength → decode bytes = .short → ∀ a, a = evenAddr s.pc + BitVec.ofNat 24 bytes.length →
        (busAddr s.platform a ∈ s.stored → step s = .refused .modifiedCode) ∧
        (busAddr s.platform a ∉ s.stored → (∀ f, readByte s a = .fault f → step s = .fault f) ∧
          ∀ r, readByte s a = .refused r → step s = .refused r))) ∧
    ∀ a, (busAddr s.platform a ∈ s.stored → fetchByte s a = .refused .modifiedCode) ∧
      (busAddr s.platform a ∉ s.stored → fetchByte s a = readByte s a)

/-- Every step keeps the invariant: canonical memory, the record of stores, an even PC (spec rules R42, R70, R95,
R105). Rests on the model's choices in logs 6, 16 and 17. -/
def Obligations.StepKeepsInvariant : Prop :=
  ∀ s t : State, s.Inv → step s = .next t → t.Inv

/-- The invariant holds right after reset, and in every start state with a canonical load image (spec rules R481,
R482, R483). Rests on the model's choices in logs 1, 2, 3 and 6. -/
def Obligations.ResetMeetsInvariant : Prop :=
  State.reset.Inv ∧
    (∀ p image irq, Memory.wf image → (State.startVector p image irq).Inv) ∧
    ∀ p image irq pc0 sp0, Memory.wf image → pc0.toNat % 2 = 0 → (State.startDirect p image irq pc0 sp0).Inv

/-- The start sequence: I set, PC from vector entry 0, nothing else; then the run goes on (spec rules R481, R97).
Rests on the model's choices in logs 2, 3 and 19. -/
def Obligations.StartSequence : Prop :=
  (∀ (s : State) (target : Addr), s.startPending = true → readVector s ⟨0, by decide⟩ = .next target →
      (target.toNat % 2 = 0 → ∃ t, step s = .next t ∧ t.pc = target ∧ t.startPending = false ∧
        FlagsAfter s t [(.i, true)] ∧ MemoryAfter s t [] ∧ t.er = s.er ∧ t.sleeping = s.sleeping ∧ t.irq = s.irq ∧
        t.platform = s.platform) ∧
      (target.toNat % 2 = 1 → step s = .refused .oddTarget)) ∧
    State.reset.startPending = true ∧ ccrGet State.reset.ccr .i = true ∧ State.reset.sleeping = false

/-- No step changes the platform or a memory byte outside ram (spec rules R47, R95, R105). Rests on the model's
choices in logs 5, 7 and 17. -/
def Obligations.OnlyRamChanges : Prop :=
  ∀ s t : State, step s = .next t →
    t.platform = s.platform ∧ (∀ b, classOf s.platform b ≠ .ram → memGet t.mem b = memGet s.mem b) ∧
      ∀ b ∈ s.stored, b ∈ t.stored

/-- UI and U change by LDC, ANDC, ORC, XORC and RTE alone; I also by TRAPA, which sets it (spec rules R51, R52, R59,
R402). -/
def Obligations.UserBitsWritten : Prop :=
  (∀ (i : Instr) (s t : State), loadsCcr i = false → exec i s = .next t →
      ccrGet t.ccr .ui = ccrGet s.ccr .ui ∧ ccrGet t.ccr .u = ccrGet s.ccr .u ∧
      (ccrGet t.ccr .i = ccrGet s.ccr .i ∨ ∃ k, i = .trapa k) ∧ ∀ k, i = .trapa k → ccrGet t.ccr .i = true) ∧
    ∀ (s t : State) (v : VectorNum), exceptionEntry v s = .next t →
      ccrGet t.ccr .ui = ccrGet s.ccr .ui ∧ ccrGet t.ccr .u = ccrGet s.ccr .u ∧ ccrGet t.ccr .i = true

/-- Sleeping is set by SLEEP, cleared by exception entry, and changed by nothing else (spec rules R62, R391, R444,
R445). Rests on the model's choices in logs 9 and 24. -/
def Obligations.SleepBit : Prop :=
  (∀ (i : Instr) (s t : State), exec i s = .next t →
      (i = .sleep → t.sleeping = true) ∧ ((∃ k, i = .trapa k) → t.sleeping = false) ∧
        (i ≠ .sleep → (∀ k, i ≠ .trapa k) → t.sleeping = s.sleeping)) ∧
    ∀ s : State, s.startPending = false → s.sleeping = true → acceptedRequest s = none →
      step s = .next (s.setIrq s.irq.tail)

/-- The effective addresses as numbers modulo 2^24 (spec rules R83, R84, R85, R88, R89, R90, R94). That the sums wrap
modulo 2^24 is decision D11 of the spec (R94, log 25). -/
def Obligations.EffectiveAddresses : Prop :=
  (∀ (s : State) n, (eaInd s n).toNat = (readEr s n).toNat % 2 ^ 24) ∧
    (∀ (s : State) d n, eaDisp16 s d n = BitVec.ofInt 24 ((readEr s n).toNat + d.toInt)) ∧
    (∀ (s : State) d n, eaDisp24 s d n = BitVec.ofInt 24 ((readEr s n).toNat + d.toInt) ∧
      eaDisp24 s d n = BitVec.ofNat 24 ((readEr s n).toNat + d.toNat)) ∧
    (∀ a, (eaAbs8 a).toNat = 0xFFFF00 + a.toNat) ∧
    (∀ a, eaAbs16 a = BitVec.ofInt 24 a.toInt) ∧
    ∀ a, eaAbs24 a = a

/-- Bus addresses, byte, word and longword reads: what a byte read answers by class, big-endian, bit 0 of the address
ignored (spec rules R72, R76, R77, R78, R95). That each byte address of a longword is reduced to the bus address again
is decision D11 of the spec (R78, log 25). The stops are the model's choices in logs 6 and 7. -/
def Obligations.MemoryReads : Prop :=
  ∀ s : State,
    (s.platform.mode = .advanced → ∀ a : Addr, busAddr s.platform a = a.toNat % 2 ^ 24) ∧
    (s.platform.mode = .normal → ∀ a : Addr, busAddr s.platform a = a.toNat % 2 ^ 16) ∧
    (∀ a b, busAddr s.platform a = busAddr s.platform b →
      readByte s a = readByte s b ∧ readWord s a = readWord s b ∧ readLong s a = readLong s b) ∧
    (∀ a, classOf s.platform (busAddr s.platform a) = .ram ∨ classOf s.platform (busAddr s.platform a) = .rom →
      (∀ v, memGet s.mem (busAddr s.platform a) = some v → readByte s a = .next v) ∧
      (memGet s.mem (busAddr s.platform a) = none → readByte s a = .fault .noValue)) ∧
    (∀ a, classOf s.platform (busAddr s.platform a) = .none → readByte s a = .fault .noMemory) ∧
    (∀ a, classOf s.platform (busAddr s.platform a) = .io → readByte s a = .refused .ioAccess) ∧
    (∀ a h l, readByte s (a &&& 0xFFFFFE#24) = .next h → readByte s ((a &&& 0xFFFFFE#24) + 1#24) = .next l →
      readWord s a = .next (h ++ l)) ∧
    (∀ a w, readWord s a = .next w → readByte s (a &&& 0xFFFFFE#24) = .next (w.extractLsb' 8 8) ∧
      readByte s ((a &&& 0xFFFFFE#24) + 1#24) = .next (w.extractLsb' 0 8)) ∧
    (∀ a, readWord s (a ||| 1#24) = readWord s (a &&& 0xFFFFFE#24) ∧
      readLong s (a ||| 1#24) = readLong s (a &&& 0xFFFFFE#24)) ∧
    ∀ a h l, readWord s a = .next h → readWord s (a + 2#24) = .next l → readLong s a = .next (h ++ l)

/-- A value stored is read back at its address, and the other bytes are untouched (spec rules R79, R81, R95, R102).
Rests on the model's choices in logs 7, 17 and 30. -/
def Obligations.ReadAfterWrite : Prop :=
  ∀ s : State,
    (∀ a v t, writeByte s a v = .next t → readByte t a = .next v ∧ MemoryAfter s t [(a, v)]) ∧
    (∀ a v t, writeWord s a v = .next t → readWord t a = .next v ∧ MemoryAfter s t (wordCells a v)) ∧
    (∀ a v t, writeLong s a v = .next t → readLong t a = .next v ∧ MemoryAfter s t (longCells a v)) ∧
    (∀ a v, (∃ t, writeByte s a v = .next t) ↔ Writable s [(a, v)]) ∧
    (∀ a v, (∃ t, writeWord s a v = .next t) ↔ Writable s (wordCells a v)) ∧
    (∀ a v, (∃ t, writeLong s a v = .next t) ↔ Writable s (longCells a v)) ∧
    ∀ a v, (classOf s.platform (busAddr s.platform a) = .rom → writeByte s a v = .refused .storeToRom) ∧
      (classOf s.platform (busAddr s.platform a) = .io → writeByte s a v = .refused .ioAccess) ∧
      (classOf s.platform (busAddr s.platform a) = .none → writeByte s a v = .fault .noMemory)

/-- ERn is En:Rn and Rn is RnH:RnL, by the register fields of the encoding; a write changes its part alone (spec rules
R31, R33, R113, R114, R115). The field numbers n and n + 8 are PRESUMED (R113 to R115 are general knowledge, log 12).
-/
def Obligations.RegisterParts : Prop :=
  ∀ s : State,
    (∀ n : ErNum, readEr s n = readR16 s (1#1 ++ n) ++ readR16 s (0#1 ++ n)) ∧
    (∀ n : ErNum, readR16 s (0#1 ++ n) = readR8 s (0#1 ++ n) ++ readR8 s (1#1 ++ n)) ∧
    (∀ k v, OnlyR8 s (writeR8 s k v) k v) ∧ (∀ k v, OnlyR16 s (writeR16 s k v) k v) ∧
    ∀ n v, OnlyEr s (writeEr s n v) n v

/-- Words written out from the encoding table decode to their instructions (spec rules R145, R147, R148). Rests on the
model's choice in log 12. -/
def Obligations.DecodedWords : Prop :=
  decode [0xF8#8, 0x80#8] = .ok (.movBImm 0x80#8 8#4) 2 ∧
    decode [0x01#8, 0x00#8, 0x78#8, 0x20#8, 0x6B#8, 0xA0#8, 0x00#8, 0x12#8, 0x34#8, 0x56#8] =
      .ok (.movLStDisp24 0#3 0x123456#24 2#3) 10 ∧
    decode [0x88#8, 0x01#8] = .ok (.addBImm 0x01#8 8#4) 2 ∧
    decode [0x1A#8, 0xB1#8] = .ok (.subLReg 3#3 1#3) 2 ∧
    decode [0x0F#8, 0x08#8] = .ok (.daa 8#4) 2 ∧
    decode [0x01#8, 0xC0#8, 0x50#8, 0x90#8] = .ok (.mulxsB 9#4 0#4) 4 ∧
    decode [0x01#8, 0xF0#8, 0x66#8, 0x32#8] = .ok (.andLReg 3#3 2#3) 4 ∧
    decode [0x13#8, 0x30#8] = .ok (.rotxrL 0#3) 2 ∧
    decode [0x7D#8, 0x10#8, 0x60#8, 0xA0#8] = .ok (.bsetRnInd 10#4 1#3) 4 ∧
    decode [0x7F#8, 0x10#8, 0x67#8, 0xF0#8] = .ok (.bistAbs8 7#3 0x10#8) 4 ∧
    decode [0x40#8, 0x7E#8] = .ok (.bra (.d8 0x7E#8)) 2 ∧
    decode [0x58#8, 0xE0#8, 0x80#8, 0x00#8] = .ok (.bgt (.d16 0x8000#16)) 4 ∧
    decode [0x5A#8, 0x01#8, 0x23#8, 0x40#8] = .ok (.jmpAbs24 0x012340#24) 4 ∧
    decode [0x5C#8, 0x00#8, 0xFF#8, 0x00#8] = .ok (.bsr (.d16 0xFF00#16)) 4 ∧
    decode [0x01#8, 0x40#8, 0x6D#8, 0x70#8] = .ok (.ldcWInc 7#3) 4 ∧
    decode [0x57#8, 0x30#8] = .ok (.trapa 3#2) 2 ∧
    decode [0x01#8, 0x80#8] = .ok .sleep 2 ∧
    decode [0x7B#8, 0xD4#8, 0x59#8, 0x8F#8] = .ok .eepmovW 4 ∧
    decode [0x0A#8, 0x10#8] = .undefined ∧ decode [0x6A#8, 0x48#8, 0x00#8, 0x00#8] = .undefined
end

