-- ==== Sys2Proof/Laws/State.lean ====
section
/-!
SUPPORT. One lemma per field per update of State, true by `rfl`, so that no later proof unfolds a record update.
-/

namespace Sys2Proof.Machine

variable (s : State)

@[simp] theorem setEr_er (v : Vector Long 8) : (s.setEr v).er = v := rfl
@[simp] theorem setEr_pc (v : Vector Long 8) : (s.setEr v).pc = s.pc := rfl
@[simp] theorem setEr_ccr (v : Vector Long 8) : (s.setEr v).ccr = s.ccr := rfl
@[simp] theorem setEr_sleeping (v : Vector Long 8) : (s.setEr v).sleeping = s.sleeping := rfl
@[simp] theorem setEr_mem (v : Vector Long 8) : (s.setEr v).mem = s.mem := rfl
@[simp] theorem setEr_stored (v : Vector Long 8) : (s.setEr v).stored = s.stored := rfl
@[simp] theorem setEr_irq (v : Vector Long 8) : (s.setEr v).irq = s.irq := rfl
@[simp] theorem setEr_startPending (v : Vector Long 8) : (s.setEr v).startPending = s.startPending := rfl
@[simp] theorem setEr_draws (v : Vector Long 8) : (s.setEr v).draws = s.draws := rfl
@[simp] theorem setEr_platform (v : Vector Long 8) : (s.setEr v).platform = s.platform := rfl

@[simp] theorem setPc_er (v : Addr) : (s.setPc v).er = s.er := rfl
@[simp] theorem setPc_pc (v : Addr) : (s.setPc v).pc = v := rfl
@[simp] theorem setPc_ccr (v : Addr) : (s.setPc v).ccr = s.ccr := rfl
@[simp] theorem setPc_sleeping (v : Addr) : (s.setPc v).sleeping = s.sleeping := rfl
@[simp] theorem setPc_mem (v : Addr) : (s.setPc v).mem = s.mem := rfl
@[simp] theorem setPc_stored (v : Addr) : (s.setPc v).stored = s.stored := rfl
@[simp] theorem setPc_irq (v : Addr) : (s.setPc v).irq = s.irq := rfl
@[simp] theorem setPc_startPending (v : Addr) : (s.setPc v).startPending = s.startPending := rfl
@[simp] theorem setPc_draws (v : Addr) : (s.setPc v).draws = s.draws := rfl
@[simp] theorem setPc_platform (v : Addr) : (s.setPc v).platform = s.platform := rfl

@[simp] theorem setCcr_er (v : Byte) : (s.setCcr v).er = s.er := rfl
@[simp] theorem setCcr_pc (v : Byte) : (s.setCcr v).pc = s.pc := rfl
@[simp] theorem setCcr_ccr (v : Byte) : (s.setCcr v).ccr = v := rfl
@[simp] theorem setCcr_sleeping (v : Byte) : (s.setCcr v).sleeping = s.sleeping := rfl
@[simp] theorem setCcr_mem (v : Byte) : (s.setCcr v).mem = s.mem := rfl
@[simp] theorem setCcr_stored (v : Byte) : (s.setCcr v).stored = s.stored := rfl
@[simp] theorem setCcr_irq (v : Byte) : (s.setCcr v).irq = s.irq := rfl
@[simp] theorem setCcr_startPending (v : Byte) : (s.setCcr v).startPending = s.startPending := rfl
@[simp] theorem setCcr_draws (v : Byte) : (s.setCcr v).draws = s.draws := rfl
@[simp] theorem setCcr_platform (v : Byte) : (s.setCcr v).platform = s.platform := rfl

@[simp] theorem setSleeping_er (v : Bool) : (s.setSleeping v).er = s.er := rfl
@[simp] theorem setSleeping_pc (v : Bool) : (s.setSleeping v).pc = s.pc := rfl
@[simp] theorem setSleeping_ccr (v : Bool) : (s.setSleeping v).ccr = s.ccr := rfl
@[simp] theorem setSleeping_sleeping (v : Bool) : (s.setSleeping v).sleeping = v := rfl
@[simp] theorem setSleeping_mem (v : Bool) : (s.setSleeping v).mem = s.mem := rfl
@[simp] theorem setSleeping_stored (v : Bool) : (s.setSleeping v).stored = s.stored := rfl
@[simp] theorem setSleeping_irq (v : Bool) : (s.setSleeping v).irq = s.irq := rfl
@[simp] theorem setSleeping_startPending (v : Bool) : (s.setSleeping v).startPending = s.startPending := rfl
@[simp] theorem setSleeping_draws (v : Bool) : (s.setSleeping v).draws = s.draws := rfl
@[simp] theorem setSleeping_platform (v : Bool) : (s.setSleeping v).platform = s.platform := rfl

@[simp] theorem setMem_er (m : Memory) (l : List Nat) : (s.setMem m l).er = s.er := rfl
@[simp] theorem setMem_pc (m : Memory) (l : List Nat) : (s.setMem m l).pc = s.pc := rfl
@[simp] theorem setMem_ccr (m : Memory) (l : List Nat) : (s.setMem m l).ccr = s.ccr := rfl
@[simp] theorem setMem_sleeping (m : Memory) (l : List Nat) : (s.setMem m l).sleeping = s.sleeping := rfl
@[simp] theorem setMem_mem (m : Memory) (l : List Nat) : (s.setMem m l).mem = m := rfl
@[simp] theorem setMem_stored (m : Memory) (l : List Nat) : (s.setMem m l).stored = l := rfl
@[simp] theorem setMem_irq (m : Memory) (l : List Nat) : (s.setMem m l).irq = s.irq := rfl
@[simp] theorem setMem_startPending (m : Memory) (l : List Nat) : (s.setMem m l).startPending = s.startPending := rfl
@[simp] theorem setMem_draws (m : Memory) (l : List Nat) : (s.setMem m l).draws = s.draws := rfl
@[simp] theorem setMem_platform (m : Memory) (l : List Nat) : (s.setMem m l).platform = s.platform := rfl

@[simp] theorem setIrq_er (v : List (List Request)) : (s.setIrq v).er = s.er := rfl
@[simp] theorem setIrq_pc (v : List (List Request)) : (s.setIrq v).pc = s.pc := rfl
@[simp] theorem setIrq_ccr (v : List (List Request)) : (s.setIrq v).ccr = s.ccr := rfl
@[simp] theorem setIrq_sleeping (v : List (List Request)) : (s.setIrq v).sleeping = s.sleeping := rfl
@[simp] theorem setIrq_mem (v : List (List Request)) : (s.setIrq v).mem = s.mem := rfl
@[simp] theorem setIrq_stored (v : List (List Request)) : (s.setIrq v).stored = s.stored := rfl
@[simp] theorem setIrq_irq (v : List (List Request)) : (s.setIrq v).irq = v := rfl
@[simp] theorem setIrq_startPending (v : List (List Request)) : (s.setIrq v).startPending = s.startPending := rfl
@[simp] theorem setIrq_draws (v : List (List Request)) : (s.setIrq v).draws = s.draws := rfl
@[simp] theorem setIrq_platform (v : List (List Request)) : (s.setIrq v).platform = s.platform := rfl

@[simp] theorem setStartPending_er (v : Bool) : (s.setStartPending v).er = s.er := rfl
@[simp] theorem setStartPending_pc (v : Bool) : (s.setStartPending v).pc = s.pc := rfl
@[simp] theorem setStartPending_ccr (v : Bool) : (s.setStartPending v).ccr = s.ccr := rfl
@[simp] theorem setStartPending_sleeping (v : Bool) : (s.setStartPending v).sleeping = s.sleeping := rfl
@[simp] theorem setStartPending_mem (v : Bool) : (s.setStartPending v).mem = s.mem := rfl
@[simp] theorem setStartPending_stored (v : Bool) : (s.setStartPending v).stored = s.stored := rfl
@[simp] theorem setStartPending_irq (v : Bool) : (s.setStartPending v).irq = s.irq := rfl
@[simp] theorem setStartPending_startPending (v : Bool) : (s.setStartPending v).startPending = v := rfl
@[simp] theorem setStartPending_draws (v : Bool) : (s.setStartPending v).draws = s.draws := rfl
@[simp] theorem setStartPending_platform (v : Bool) : (s.setStartPending v).platform = s.platform := rfl

@[simp] theorem drawn_er (n : Nat) : (s.drawn n).er = s.er := rfl
@[simp] theorem drawn_pc (n : Nat) : (s.drawn n).pc = s.pc := rfl
@[simp] theorem drawn_ccr (n : Nat) : (s.drawn n).ccr = s.ccr := rfl
@[simp] theorem drawn_sleeping (n : Nat) : (s.drawn n).sleeping = s.sleeping := rfl
@[simp] theorem drawn_mem (n : Nat) : (s.drawn n).mem = s.mem := rfl
@[simp] theorem drawn_stored (n : Nat) : (s.drawn n).stored = s.stored := rfl
@[simp] theorem drawn_irq (n : Nat) : (s.drawn n).irq = s.irq := rfl
@[simp] theorem drawn_startPending (n : Nat) : (s.drawn n).startPending = s.startPending := rfl
@[simp] theorem drawn_draws (n : Nat) : (s.drawn n).draws = s.draws + n := rfl
@[simp] theorem drawn_platform (n : Nat) : (s.drawn n).platform = s.platform := rfl

@[simp] theorem writeEr_pc (n : ErNum) (v : Long) : (writeEr s n v).pc = s.pc := rfl
@[simp] theorem writeEr_ccr (n : ErNum) (v : Long) : (writeEr s n v).ccr = s.ccr := rfl
@[simp] theorem writeEr_sleeping (n : ErNum) (v : Long) : (writeEr s n v).sleeping = s.sleeping := rfl
@[simp] theorem writeEr_mem (n : ErNum) (v : Long) : (writeEr s n v).mem = s.mem := rfl
@[simp] theorem writeEr_stored (n : ErNum) (v : Long) : (writeEr s n v).stored = s.stored := rfl
@[simp] theorem writeEr_irq (n : ErNum) (v : Long) : (writeEr s n v).irq = s.irq := rfl
@[simp] theorem writeEr_startPending (n : ErNum) (v : Long) : (writeEr s n v).startPending = s.startPending := rfl
@[simp] theorem writeEr_draws (n : ErNum) (v : Long) : (writeEr s n v).draws = s.draws := rfl
@[simp] theorem writeEr_platform (n : ErNum) (v : Long) : (writeEr s n v).platform = s.platform := rfl

@[simp] theorem writeR8_pc (k : RegNum) (v : Byte) : (writeR8 s k v).pc = s.pc := rfl
@[simp] theorem writeR8_ccr (k : RegNum) (v : Byte) : (writeR8 s k v).ccr = s.ccr := rfl
@[simp] theorem writeR8_sleeping (k : RegNum) (v : Byte) : (writeR8 s k v).sleeping = s.sleeping := rfl
@[simp] theorem writeR8_mem (k : RegNum) (v : Byte) : (writeR8 s k v).mem = s.mem := rfl
@[simp] theorem writeR8_stored (k : RegNum) (v : Byte) : (writeR8 s k v).stored = s.stored := rfl
@[simp] theorem writeR8_irq (k : RegNum) (v : Byte) : (writeR8 s k v).irq = s.irq := rfl
@[simp] theorem writeR8_startPending (k : RegNum) (v : Byte) : (writeR8 s k v).startPending = s.startPending := rfl
@[simp] theorem writeR8_draws (k : RegNum) (v : Byte) : (writeR8 s k v).draws = s.draws := rfl
@[simp] theorem writeR8_platform (k : RegNum) (v : Byte) : (writeR8 s k v).platform = s.platform := rfl

@[simp] theorem writeR16_pc (k : RegNum) (v : Word) : (writeR16 s k v).pc = s.pc := rfl
@[simp] theorem writeR16_ccr (k : RegNum) (v : Word) : (writeR16 s k v).ccr = s.ccr := rfl
@[simp] theorem writeR16_sleeping (k : RegNum) (v : Word) : (writeR16 s k v).sleeping = s.sleeping := rfl
@[simp] theorem writeR16_mem (k : RegNum) (v : Word) : (writeR16 s k v).mem = s.mem := rfl
@[simp] theorem writeR16_stored (k : RegNum) (v : Word) : (writeR16 s k v).stored = s.stored := rfl
@[simp] theorem writeR16_irq (k : RegNum) (v : Word) : (writeR16 s k v).irq = s.irq := rfl
@[simp] theorem writeR16_startPending (k : RegNum) (v : Word) : (writeR16 s k v).startPending = s.startPending := rfl
@[simp] theorem writeR16_draws (k : RegNum) (v : Word) : (writeR16 s k v).draws = s.draws := rfl
@[simp] theorem writeR16_platform (k : RegNum) (v : Word) : (writeR16 s k v).platform = s.platform := rfl

@[simp] theorem bumpEr_pc (n : ErNum) (k : Long) : (bumpEr s n k).pc = s.pc := rfl
@[simp] theorem bumpEr_ccr (n : ErNum) (k : Long) : (bumpEr s n k).ccr = s.ccr := rfl
@[simp] theorem bumpEr_sleeping (n : ErNum) (k : Long) : (bumpEr s n k).sleeping = s.sleeping := rfl
@[simp] theorem bumpEr_mem (n : ErNum) (k : Long) : (bumpEr s n k).mem = s.mem := rfl
@[simp] theorem bumpEr_stored (n : ErNum) (k : Long) : (bumpEr s n k).stored = s.stored := rfl
@[simp] theorem bumpEr_irq (n : ErNum) (k : Long) : (bumpEr s n k).irq = s.irq := rfl
@[simp] theorem bumpEr_startPending (n : ErNum) (k : Long) : (bumpEr s n k).startPending = s.startPending := rfl
@[simp] theorem bumpEr_draws (n : ErNum) (k : Long) : (bumpEr s n k).draws = s.draws := rfl
@[simp] theorem bumpEr_platform (n : ErNum) (k : Long) : (bumpEr s n k).platform = s.platform := rfl

@[simp] theorem dropEr_pc (n : ErNum) (k : Long) : (dropEr s n k).pc = s.pc := rfl
@[simp] theorem dropEr_ccr (n : ErNum) (k : Long) : (dropEr s n k).ccr = s.ccr := rfl
@[simp] theorem dropEr_sleeping (n : ErNum) (k : Long) : (dropEr s n k).sleeping = s.sleeping := rfl
@[simp] theorem dropEr_mem (n : ErNum) (k : Long) : (dropEr s n k).mem = s.mem := rfl
@[simp] theorem dropEr_stored (n : ErNum) (k : Long) : (dropEr s n k).stored = s.stored := rfl
@[simp] theorem dropEr_irq (n : ErNum) (k : Long) : (dropEr s n k).irq = s.irq := rfl
@[simp] theorem dropEr_startPending (n : ErNum) (k : Long) : (dropEr s n k).startPending = s.startPending := rfl
@[simp] theorem dropEr_draws (n : ErNum) (k : Long) : (dropEr s n k).draws = s.draws := rfl
@[simp] theorem dropEr_platform (n : ErNum) (k : Long) : (dropEr s n k).platform = s.platform := rfl

@[simp] theorem resultR8_er (k : RegNum) (v : BitVec 8) : (resultR8 s k v).er = (writeR8 s k v).er := rfl
@[simp] theorem resultR8_pc (k : RegNum) (v : BitVec 8) : (resultR8 s k v).pc = s.pc := rfl
@[simp] theorem resultR8_ccr (k : RegNum) (v : BitVec 8) : (resultR8 s k v).ccr = ccrPutNZV0 s.ccr v := rfl
@[simp] theorem resultR8_sleeping (k : RegNum) (v : BitVec 8) : (resultR8 s k v).sleeping = s.sleeping := rfl
@[simp] theorem resultR8_mem (k : RegNum) (v : BitVec 8) : (resultR8 s k v).mem = s.mem := rfl
@[simp] theorem resultR8_stored (k : RegNum) (v : BitVec 8) : (resultR8 s k v).stored = s.stored := rfl
@[simp] theorem resultR8_irq (k : RegNum) (v : BitVec 8) : (resultR8 s k v).irq = s.irq := rfl
@[simp] theorem resultR8_startPending (k : RegNum) (v : BitVec 8) : (resultR8 s k v).startPending = s.startPending := rfl
@[simp] theorem resultR8_draws (k : RegNum) (v : BitVec 8) : (resultR8 s k v).draws = s.draws := rfl
@[simp] theorem resultR8_platform (k : RegNum) (v : BitVec 8) : (resultR8 s k v).platform = s.platform := rfl

@[simp] theorem arithR8_er (k : RegNum) (t : Arith 8) : (arithR8 s k t).er = (writeR8 s k t.result).er := rfl
@[simp] theorem arithR8_pc (k : RegNum) (t : Arith 8) : (arithR8 s k t).pc = s.pc := rfl
@[simp] theorem arithR8_ccr (k : RegNum) (t : Arith 8) : (arithR8 s k t).ccr = ccrPutArith s.ccr t := rfl
@[simp] theorem arithR8_sleeping (k : RegNum) (t : Arith 8) : (arithR8 s k t).sleeping = s.sleeping := rfl
@[simp] theorem arithR8_mem (k : RegNum) (t : Arith 8) : (arithR8 s k t).mem = s.mem := rfl
@[simp] theorem arithR8_stored (k : RegNum) (t : Arith 8) : (arithR8 s k t).stored = s.stored := rfl
@[simp] theorem arithR8_irq (k : RegNum) (t : Arith 8) : (arithR8 s k t).irq = s.irq := rfl
@[simp] theorem arithR8_startPending (k : RegNum) (t : Arith 8) : (arithR8 s k t).startPending = s.startPending := rfl
@[simp] theorem arithR8_draws (k : RegNum) (t : Arith 8) : (arithR8 s k t).draws = s.draws := rfl
@[simp] theorem arithR8_platform (k : RegNum) (t : Arith 8) : (arithR8 s k t).platform = s.platform := rfl

@[simp] theorem countR8_er (k : RegNum) (t : Arith 8) : (countR8 s k t).er = (writeR8 s k t.result).er := rfl
@[simp] theorem countR8_pc (k : RegNum) (t : Arith 8) : (countR8 s k t).pc = s.pc := rfl
@[simp] theorem countR8_ccr (k : RegNum) (t : Arith 8) : (countR8 s k t).ccr = ccrPutNZV s.ccr t := rfl
@[simp] theorem countR8_sleeping (k : RegNum) (t : Arith 8) : (countR8 s k t).sleeping = s.sleeping := rfl
@[simp] theorem countR8_mem (k : RegNum) (t : Arith 8) : (countR8 s k t).mem = s.mem := rfl
@[simp] theorem countR8_stored (k : RegNum) (t : Arith 8) : (countR8 s k t).stored = s.stored := rfl
@[simp] theorem countR8_irq (k : RegNum) (t : Arith 8) : (countR8 s k t).irq = s.irq := rfl
@[simp] theorem countR8_startPending (k : RegNum) (t : Arith 8) : (countR8 s k t).startPending = s.startPending := rfl
@[simp] theorem countR8_draws (k : RegNum) (t : Arith 8) : (countR8 s k t).draws = s.draws := rfl
@[simp] theorem countR8_platform (k : RegNum) (t : Arith 8) : (countR8 s k t).platform = s.platform := rfl

@[simp] theorem shiftR8_er (k : RegNum) (t : Shifted 8) : (shiftR8 s k t).er = (writeR8 s k t.result).er := rfl
@[simp] theorem shiftR8_pc (k : RegNum) (t : Shifted 8) : (shiftR8 s k t).pc = s.pc := rfl
@[simp] theorem shiftR8_ccr (k : RegNum) (t : Shifted 8) : (shiftR8 s k t).ccr = ccrPutShift s.ccr t := rfl
@[simp] theorem shiftR8_sleeping (k : RegNum) (t : Shifted 8) : (shiftR8 s k t).sleeping = s.sleeping := rfl
@[simp] theorem shiftR8_mem (k : RegNum) (t : Shifted 8) : (shiftR8 s k t).mem = s.mem := rfl
@[simp] theorem shiftR8_stored (k : RegNum) (t : Shifted 8) : (shiftR8 s k t).stored = s.stored := rfl
@[simp] theorem shiftR8_irq (k : RegNum) (t : Shifted 8) : (shiftR8 s k t).irq = s.irq := rfl
@[simp] theorem shiftR8_startPending (k : RegNum) (t : Shifted 8) : (shiftR8 s k t).startPending = s.startPending := rfl
@[simp] theorem shiftR8_draws (k : RegNum) (t : Shifted 8) : (shiftR8 s k t).draws = s.draws := rfl
@[simp] theorem shiftR8_platform (k : RegNum) (t : Shifted 8) : (shiftR8 s k t).platform = s.platform := rfl

@[simp] theorem resultR16_er (k : RegNum) (v : BitVec 16) : (resultR16 s k v).er = (writeR16 s k v).er := rfl
@[simp] theorem resultR16_pc (k : RegNum) (v : BitVec 16) : (resultR16 s k v).pc = s.pc := rfl
@[simp] theorem resultR16_ccr (k : RegNum) (v : BitVec 16) : (resultR16 s k v).ccr = ccrPutNZV0 s.ccr v := rfl
@[simp] theorem resultR16_sleeping (k : RegNum) (v : BitVec 16) : (resultR16 s k v).sleeping = s.sleeping := rfl
@[simp] theorem resultR16_mem (k : RegNum) (v : BitVec 16) : (resultR16 s k v).mem = s.mem := rfl
@[simp] theorem resultR16_stored (k : RegNum) (v : BitVec 16) : (resultR16 s k v).stored = s.stored := rfl
@[simp] theorem resultR16_irq (k : RegNum) (v : BitVec 16) : (resultR16 s k v).irq = s.irq := rfl
@[simp] theorem resultR16_startPending (k : RegNum) (v : BitVec 16) : (resultR16 s k v).startPending = s.startPending := rfl
@[simp] theorem resultR16_draws (k : RegNum) (v : BitVec 16) : (resultR16 s k v).draws = s.draws := rfl
@[simp] theorem resultR16_platform (k : RegNum) (v : BitVec 16) : (resultR16 s k v).platform = s.platform := rfl

@[simp] theorem arithR16_er (k : RegNum) (t : Arith 16) : (arithR16 s k t).er = (writeR16 s k t.result).er := rfl
@[simp] theorem arithR16_pc (k : RegNum) (t : Arith 16) : (arithR16 s k t).pc = s.pc := rfl
@[simp] theorem arithR16_ccr (k : RegNum) (t : Arith 16) : (arithR16 s k t).ccr = ccrPutArith s.ccr t := rfl
@[simp] theorem arithR16_sleeping (k : RegNum) (t : Arith 16) : (arithR16 s k t).sleeping = s.sleeping := rfl
@[simp] theorem arithR16_mem (k : RegNum) (t : Arith 16) : (arithR16 s k t).mem = s.mem := rfl
@[simp] theorem arithR16_stored (k : RegNum) (t : Arith 16) : (arithR16 s k t).stored = s.stored := rfl
@[simp] theorem arithR16_irq (k : RegNum) (t : Arith 16) : (arithR16 s k t).irq = s.irq := rfl
@[simp] theorem arithR16_startPending (k : RegNum) (t : Arith 16) : (arithR16 s k t).startPending = s.startPending := rfl
@[simp] theorem arithR16_draws (k : RegNum) (t : Arith 16) : (arithR16 s k t).draws = s.draws := rfl
@[simp] theorem arithR16_platform (k : RegNum) (t : Arith 16) : (arithR16 s k t).platform = s.platform := rfl

@[simp] theorem countR16_er (k : RegNum) (t : Arith 16) : (countR16 s k t).er = (writeR16 s k t.result).er := rfl
@[simp] theorem countR16_pc (k : RegNum) (t : Arith 16) : (countR16 s k t).pc = s.pc := rfl
@[simp] theorem countR16_ccr (k : RegNum) (t : Arith 16) : (countR16 s k t).ccr = ccrPutNZV s.ccr t := rfl
@[simp] theorem countR16_sleeping (k : RegNum) (t : Arith 16) : (countR16 s k t).sleeping = s.sleeping := rfl
@[simp] theorem countR16_mem (k : RegNum) (t : Arith 16) : (countR16 s k t).mem = s.mem := rfl
@[simp] theorem countR16_stored (k : RegNum) (t : Arith 16) : (countR16 s k t).stored = s.stored := rfl
@[simp] theorem countR16_irq (k : RegNum) (t : Arith 16) : (countR16 s k t).irq = s.irq := rfl
@[simp] theorem countR16_startPending (k : RegNum) (t : Arith 16) : (countR16 s k t).startPending = s.startPending := rfl
@[simp] theorem countR16_draws (k : RegNum) (t : Arith 16) : (countR16 s k t).draws = s.draws := rfl
@[simp] theorem countR16_platform (k : RegNum) (t : Arith 16) : (countR16 s k t).platform = s.platform := rfl

@[simp] theorem shiftR16_er (k : RegNum) (t : Shifted 16) : (shiftR16 s k t).er = (writeR16 s k t.result).er := rfl
@[simp] theorem shiftR16_pc (k : RegNum) (t : Shifted 16) : (shiftR16 s k t).pc = s.pc := rfl
@[simp] theorem shiftR16_ccr (k : RegNum) (t : Shifted 16) : (shiftR16 s k t).ccr = ccrPutShift s.ccr t := rfl
@[simp] theorem shiftR16_sleeping (k : RegNum) (t : Shifted 16) : (shiftR16 s k t).sleeping = s.sleeping := rfl
@[simp] theorem shiftR16_mem (k : RegNum) (t : Shifted 16) : (shiftR16 s k t).mem = s.mem := rfl
@[simp] theorem shiftR16_stored (k : RegNum) (t : Shifted 16) : (shiftR16 s k t).stored = s.stored := rfl
@[simp] theorem shiftR16_irq (k : RegNum) (t : Shifted 16) : (shiftR16 s k t).irq = s.irq := rfl
@[simp] theorem shiftR16_startPending (k : RegNum) (t : Shifted 16) : (shiftR16 s k t).startPending = s.startPending := rfl
@[simp] theorem shiftR16_draws (k : RegNum) (t : Shifted 16) : (shiftR16 s k t).draws = s.draws := rfl
@[simp] theorem shiftR16_platform (k : RegNum) (t : Shifted 16) : (shiftR16 s k t).platform = s.platform := rfl

@[simp] theorem resultEr_er (n : ErNum) (v : BitVec 32) : (resultEr s n v).er = (writeEr s n v).er := rfl
@[simp] theorem resultEr_pc (n : ErNum) (v : BitVec 32) : (resultEr s n v).pc = s.pc := rfl
@[simp] theorem resultEr_ccr (n : ErNum) (v : BitVec 32) : (resultEr s n v).ccr = ccrPutNZV0 s.ccr v := rfl
@[simp] theorem resultEr_sleeping (n : ErNum) (v : BitVec 32) : (resultEr s n v).sleeping = s.sleeping := rfl
@[simp] theorem resultEr_mem (n : ErNum) (v : BitVec 32) : (resultEr s n v).mem = s.mem := rfl
@[simp] theorem resultEr_stored (n : ErNum) (v : BitVec 32) : (resultEr s n v).stored = s.stored := rfl
@[simp] theorem resultEr_irq (n : ErNum) (v : BitVec 32) : (resultEr s n v).irq = s.irq := rfl
@[simp] theorem resultEr_startPending (n : ErNum) (v : BitVec 32) : (resultEr s n v).startPending = s.startPending := rfl
@[simp] theorem resultEr_draws (n : ErNum) (v : BitVec 32) : (resultEr s n v).draws = s.draws := rfl
@[simp] theorem resultEr_platform (n : ErNum) (v : BitVec 32) : (resultEr s n v).platform = s.platform := rfl

@[simp] theorem arithEr_er (n : ErNum) (t : Arith 32) : (arithEr s n t).er = (writeEr s n t.result).er := rfl
@[simp] theorem arithEr_pc (n : ErNum) (t : Arith 32) : (arithEr s n t).pc = s.pc := rfl
@[simp] theorem arithEr_ccr (n : ErNum) (t : Arith 32) : (arithEr s n t).ccr = ccrPutArith s.ccr t := rfl
@[simp] theorem arithEr_sleeping (n : ErNum) (t : Arith 32) : (arithEr s n t).sleeping = s.sleeping := rfl
@[simp] theorem arithEr_mem (n : ErNum) (t : Arith 32) : (arithEr s n t).mem = s.mem := rfl
@[simp] theorem arithEr_stored (n : ErNum) (t : Arith 32) : (arithEr s n t).stored = s.stored := rfl
@[simp] theorem arithEr_irq (n : ErNum) (t : Arith 32) : (arithEr s n t).irq = s.irq := rfl
@[simp] theorem arithEr_startPending (n : ErNum) (t : Arith 32) : (arithEr s n t).startPending = s.startPending := rfl
@[simp] theorem arithEr_draws (n : ErNum) (t : Arith 32) : (arithEr s n t).draws = s.draws := rfl
@[simp] theorem arithEr_platform (n : ErNum) (t : Arith 32) : (arithEr s n t).platform = s.platform := rfl

@[simp] theorem countEr_er (n : ErNum) (t : Arith 32) : (countEr s n t).er = (writeEr s n t.result).er := rfl
@[simp] theorem countEr_pc (n : ErNum) (t : Arith 32) : (countEr s n t).pc = s.pc := rfl
@[simp] theorem countEr_ccr (n : ErNum) (t : Arith 32) : (countEr s n t).ccr = ccrPutNZV s.ccr t := rfl
@[simp] theorem countEr_sleeping (n : ErNum) (t : Arith 32) : (countEr s n t).sleeping = s.sleeping := rfl
@[simp] theorem countEr_mem (n : ErNum) (t : Arith 32) : (countEr s n t).mem = s.mem := rfl
@[simp] theorem countEr_stored (n : ErNum) (t : Arith 32) : (countEr s n t).stored = s.stored := rfl
@[simp] theorem countEr_irq (n : ErNum) (t : Arith 32) : (countEr s n t).irq = s.irq := rfl
@[simp] theorem countEr_startPending (n : ErNum) (t : Arith 32) : (countEr s n t).startPending = s.startPending := rfl
@[simp] theorem countEr_draws (n : ErNum) (t : Arith 32) : (countEr s n t).draws = s.draws := rfl
@[simp] theorem countEr_platform (n : ErNum) (t : Arith 32) : (countEr s n t).platform = s.platform := rfl

@[simp] theorem shiftEr_er (n : ErNum) (t : Shifted 32) : (shiftEr s n t).er = (writeEr s n t.result).er := rfl
@[simp] theorem shiftEr_pc (n : ErNum) (t : Shifted 32) : (shiftEr s n t).pc = s.pc := rfl
@[simp] theorem shiftEr_ccr (n : ErNum) (t : Shifted 32) : (shiftEr s n t).ccr = ccrPutShift s.ccr t := rfl
@[simp] theorem shiftEr_sleeping (n : ErNum) (t : Shifted 32) : (shiftEr s n t).sleeping = s.sleeping := rfl
@[simp] theorem shiftEr_mem (n : ErNum) (t : Shifted 32) : (shiftEr s n t).mem = s.mem := rfl
@[simp] theorem shiftEr_stored (n : ErNum) (t : Shifted 32) : (shiftEr s n t).stored = s.stored := rfl
@[simp] theorem shiftEr_irq (n : ErNum) (t : Shifted 32) : (shiftEr s n t).irq = s.irq := rfl
@[simp] theorem shiftEr_startPending (n : ErNum) (t : Shifted 32) : (shiftEr s n t).startPending = s.startPending := rfl
@[simp] theorem shiftEr_draws (n : ErNum) (t : Shifted 32) : (shiftEr s n t).draws = s.draws := rfl
@[simp] theorem shiftEr_platform (n : ErNum) (t : Shifted 32) : (shiftEr s n t).platform = s.platform := rfl

@[simp] theorem arithXR8_er (k : RegNum) (t : Arith 8) : (arithXR8 s k t).er = (writeR8 s k t.result).er := rfl
@[simp] theorem arithXR8_pc (k : RegNum) (t : Arith 8) : (arithXR8 s k t).pc = s.pc := rfl
@[simp] theorem arithXR8_ccr (k : RegNum) (t : Arith 8) : (arithXR8 s k t).ccr = ccrPutArithX s.ccr t := rfl
@[simp] theorem arithXR8_sleeping (k : RegNum) (t : Arith 8) : (arithXR8 s k t).sleeping = s.sleeping := rfl
@[simp] theorem arithXR8_mem (k : RegNum) (t : Arith 8) : (arithXR8 s k t).mem = s.mem := rfl
@[simp] theorem arithXR8_stored (k : RegNum) (t : Arith 8) : (arithXR8 s k t).stored = s.stored := rfl
@[simp] theorem arithXR8_irq (k : RegNum) (t : Arith 8) : (arithXR8 s k t).irq = s.irq := rfl
@[simp] theorem arithXR8_startPending (k : RegNum) (t : Arith 8) : (arithXR8 s k t).startPending = s.startPending := rfl
@[simp] theorem arithXR8_draws (k : RegNum) (t : Arith 8) : (arithXR8 s k t).draws = s.draws := rfl
@[simp] theorem arithXR8_platform (k : RegNum) (t : Arith 8) : (arithXR8 s k t).platform = s.platform := rfl

@[simp] theorem compareFlags_er {w : Nat} (t : Arith w) : (compareFlags s t).er = s.er := rfl
@[simp] theorem compareFlags_pc {w : Nat} (t : Arith w) : (compareFlags s t).pc = s.pc := rfl
@[simp] theorem compareFlags_ccr {w : Nat} (t : Arith w) : (compareFlags s t).ccr = ccrPutArith s.ccr t := rfl
@[simp] theorem compareFlags_sleeping {w : Nat} (t : Arith w) : (compareFlags s t).sleeping = s.sleeping := rfl
@[simp] theorem compareFlags_mem {w : Nat} (t : Arith w) : (compareFlags s t).mem = s.mem := rfl
@[simp] theorem compareFlags_stored {w : Nat} (t : Arith w) : (compareFlags s t).stored = s.stored := rfl
@[simp] theorem compareFlags_irq {w : Nat} (t : Arith w) : (compareFlags s t).irq = s.irq := rfl
@[simp] theorem compareFlags_startPending {w : Nat} (t : Arith w) : (compareFlags s t).startPending = s.startPending := rfl
@[simp] theorem compareFlags_draws {w : Nat} (t : Arith w) : (compareFlags s t).draws = s.draws := rfl
@[simp] theorem compareFlags_platform {w : Nat} (t : Arith w) : (compareFlags s t).platform = s.platform := rfl

@[simp] theorem putC_er (b : Bool) : (putC s b).er = s.er := rfl
@[simp] theorem putC_pc (b : Bool) : (putC s b).pc = s.pc := rfl
@[simp] theorem putC_ccr (b : Bool) : (putC s b).ccr = ccrPut s.ccr .c b := rfl
@[simp] theorem putC_sleeping (b : Bool) : (putC s b).sleeping = s.sleeping := rfl
@[simp] theorem putC_mem (b : Bool) : (putC s b).mem = s.mem := rfl
@[simp] theorem putC_stored (b : Bool) : (putC s b).stored = s.stored := rfl
@[simp] theorem putC_irq (b : Bool) : (putC s b).irq = s.irq := rfl
@[simp] theorem putC_startPending (b : Bool) : (putC s b).startPending = s.startPending := rfl
@[simp] theorem putC_draws (b : Bool) : (putC s b).draws = s.draws := rfl
@[simp] theorem putC_platform (b : Bool) : (putC s b).platform = s.platform := rfl

@[simp] theorem putZ_er (b : Bool) : (putZ s b).er = s.er := rfl
@[simp] theorem putZ_pc (b : Bool) : (putZ s b).pc = s.pc := rfl
@[simp] theorem putZ_ccr (b : Bool) : (putZ s b).ccr = ccrPut s.ccr .z b := rfl
@[simp] theorem putZ_sleeping (b : Bool) : (putZ s b).sleeping = s.sleeping := rfl
@[simp] theorem putZ_mem (b : Bool) : (putZ s b).mem = s.mem := rfl
@[simp] theorem putZ_stored (b : Bool) : (putZ s b).stored = s.stored := rfl
@[simp] theorem putZ_irq (b : Bool) : (putZ s b).irq = s.irq := rfl
@[simp] theorem putZ_startPending (b : Bool) : (putZ s b).startPending = s.startPending := rfl
@[simp] theorem putZ_draws (b : Bool) : (putZ s b).draws = s.draws := rfl
@[simp] theorem putZ_platform (b : Bool) : (putZ s b).platform = s.platform := rfl

@[simp] theorem afterCheck_er : (afterCheck s).er = s.er := rfl
@[simp] theorem afterCheck_pc : (afterCheck s).pc = s.pc := rfl
@[simp] theorem afterCheck_ccr : (afterCheck s).ccr = s.ccr := rfl
@[simp] theorem afterCheck_sleeping : (afterCheck s).sleeping = s.sleeping := rfl
@[simp] theorem afterCheck_mem : (afterCheck s).mem = s.mem := rfl
@[simp] theorem afterCheck_stored : (afterCheck s).stored = s.stored := rfl
@[simp] theorem afterCheck_irq : (afterCheck s).irq = s.irq.tail := rfl
@[simp] theorem afterCheck_startPending : (afterCheck s).startPending = s.startPending := rfl
@[simp] theorem afterCheck_draws : (afterCheck s).draws = s.draws := rfl
@[simp] theorem afterCheck_platform : (afterCheck s).platform = s.platform := rfl

@[simp] theorem advancePc_er (n : Nat) : (advancePc s n).er = s.er := rfl
@[simp] theorem advancePc_pc (n : Nat) : (advancePc s n).pc = s.pc + BitVec.ofNat 24 n := rfl
@[simp] theorem advancePc_ccr (n : Nat) : (advancePc s n).ccr = s.ccr := rfl
@[simp] theorem advancePc_sleeping (n : Nat) : (advancePc s n).sleeping = s.sleeping := rfl
@[simp] theorem advancePc_mem (n : Nat) : (advancePc s n).mem = s.mem := rfl
@[simp] theorem advancePc_stored (n : Nat) : (advancePc s n).stored = s.stored := rfl
@[simp] theorem advancePc_irq (n : Nat) : (advancePc s n).irq = s.irq := rfl
@[simp] theorem advancePc_startPending (n : Nat) : (advancePc s n).startPending = s.startPending := rfl
@[simp] theorem advancePc_draws (n : Nat) : (advancePc s n).draws = s.draws := rfl
@[simp] theorem advancePc_platform (n : Nat) : (advancePc s n).platform = s.platform := rfl

end Sys2Proof.Machine
end

