-- ==== Sys2Proof/Laws/Registers.lean ====
section
/-!
SUPPORT. What the register accessors do (spec/10_state.md R31, R33): reading after writing, and what a write leaves alone.
-/

namespace Sys2Proof.Machine

variable (s : State)

/-- Reading a general register needs only the register file. -/
theorem readEr_congr {s t : State} (h : t.er = s.er) (n : ErNum) : readEr t n = readEr s n := by
  simp [readEr, h]

/-- Reading an 8-bit register needs only the register file. -/
theorem readR8_congr {s t : State} (h : t.er = s.er) (k : RegNum) : readR8 t k = readR8 s k := by
  simp [readR8, readEr_congr h]

/-- Reading a 16-bit register needs only the register file. -/
theorem readR16_congr {s t : State} (h : t.er = s.er) (k : RegNum) : readR16 t k = readR16 s k := by
  simp [readR16, readEr_congr h]

/-- `ER[m]` after `ER[n] <- v`. -/
theorem readEr_writeEr (n m : ErNum) (v : Long) : readEr (writeEr s n v) m = if m = n then v else readEr s m := by
  simp only [readEr, writeEr, setEr_er, Vector.getElem_set, BitVec.toNat_inj]
  by_cases h : n = m
  · simp [h]
  · rw [if_neg h, if_neg fun e => h e.symm]

@[simp] theorem readEr_writeEr_same (n : ErNum) (v : Long) : readEr (writeEr s n v) n = v := by
  simp [readEr_writeEr]

theorem readEr_writeEr_other {n m : ErNum} (v : Long) (h : m ≠ n) : readEr (writeEr s n v) m = readEr s m := by
  simp [readEr_writeEr, h]

/-- Two 4-bit register fields are equal when their two parts are. -/
theorem regNum_ext {k j : RegNum} (h : erOf k = erOf j) (u : upperHalf k = upperHalf j) : k = j := by
  revert k j; unfold erOf upperHalf; decide

@[simp] theorem extract_low_of_putByteIn (x : Long) (v : Byte) : (putByteIn x true v).extractLsb' 0 8 = v := by
  simp only [putByteIn, if_true]
  ext i hi
  simp only [BitVec.getElem_extractLsb', BitVec.getLsbD_append]
  simp [hi]

@[simp] theorem extract_high_of_putByteIn (x : Long) (v : Byte) : (putByteIn x false v).extractLsb' 8 8 = v := by
  simp only [putByteIn, Bool.false_eq_true, if_false]
  ext i hi
  simp only [BitVec.getElem_extractLsb', BitVec.getLsbD_append]
  simp [hi, show ¬ (8 + i < 8) by omega, show 8 + i - 8 = i by omega]

@[simp] theorem extract_high_of_putByteIn_low (x : Long) (v : Byte) :
    (putByteIn x true v).extractLsb' 8 8 = x.extractLsb' 8 8 := by
  simp only [putByteIn, if_true]
  ext i hi
  simp only [BitVec.getElem_extractLsb', BitVec.getLsbD_append, BitVec.getLsbD_extractLsb']
  simp [show ¬ (8 + i < 8) by omega, show 8 + i - 8 = i by omega, show i < 24 by omega]

@[simp] theorem extract_low_of_putByteIn_high (x : Long) (v : Byte) :
    (putByteIn x false v).extractLsb' 0 8 = x.extractLsb' 0 8 := by
  simp only [putByteIn, Bool.false_eq_true, if_false]
  ext i hi
  simp only [BitVec.getElem_extractLsb', BitVec.getLsbD_append, BitVec.getLsbD_extractLsb']
  simp [hi]

@[simp] theorem extract_upper_of_putByteIn (x : Long) (b : Bool) (v : Byte) :
    (putByteIn x b v).extractLsb' 16 16 = x.extractLsb' 16 16 := by
  cases b <;> simp only [putByteIn, Bool.false_eq_true, if_false, if_true] <;> ext i hi <;>
    simp only [BitVec.getElem_extractLsb', BitVec.getLsbD_append, BitVec.getLsbD_extractLsb'] <;>
    simp [hi, show ¬ (16 + i < 8) by omega, show ¬ (16 + i - 8 < 8) by omega, show 16 + i - 8 < 24 by omega,
      show 8 + (16 + i - 8) = 16 + i by omega, show 16 + i - 8 - 8 = i by omega]

@[simp] theorem extract_upper_of_putWordIn (x : Long) (v : Word) : (putWordIn x true v).extractLsb' 16 16 = v := by
  simp only [putWordIn, if_true]
  ext i hi
  simp only [BitVec.getElem_extractLsb', BitVec.getLsbD_append]
  simp [hi, show ¬ (16 + i < 16) by omega, show 16 + i - 16 = i by omega]

@[simp] theorem extract_lower_of_putWordIn (x : Long) (v : Word) : (putWordIn x false v).extractLsb' 0 16 = v := by
  simp only [putWordIn, Bool.false_eq_true, if_false]
  ext i hi
  simp only [BitVec.getElem_extractLsb', BitVec.getLsbD_append, BitVec.getLsbD_extractLsb']
  simp [hi]

@[simp] theorem extract_lower_of_putWordIn_upper (x : Long) (v : Word) :
    (putWordIn x true v).extractLsb' 0 16 = x.extractLsb' 0 16 := by
  simp only [putWordIn, if_true]
  ext i hi
  simp only [BitVec.getElem_extractLsb', BitVec.getLsbD_append, BitVec.getLsbD_extractLsb']
  simp [hi]

@[simp] theorem extract_upper_of_putWordIn_lower (x : Long) (v : Word) :
    (putWordIn x false v).extractLsb' 16 16 = x.extractLsb' 16 16 := by
  simp only [putWordIn, Bool.false_eq_true, if_false]
  ext i hi
  simp only [BitVec.getElem_extractLsb', BitVec.getLsbD_append, BitVec.getLsbD_extractLsb']
  simp [hi, show ¬ (16 + i < 16) by omega, show 16 + i - 16 = i by omega]

/-- `R8[j]` after `R8[k] <- v` (R33). -/
theorem readR8_writeR8 (k j : RegNum) (v : Byte) :
    readR8 (writeR8 s k v) j = if j = k then v else readR8 s j := by
  by_cases e : erOf j = erOf k
  · by_cases u : upperHalf j = upperHalf k
    · rw [if_pos (regNum_ext e u)]
      cases h : upperHalf k <;> simp [readR8, writeR8, e, u, h]
    · rw [if_neg (fun h => u (by rw [h]))]
      cases h : upperHalf k <;> cases h' : upperHalf j <;> simp_all [readR8, writeR8]
  · rw [if_neg (fun h => e (by rw [h]))]
    simp [readR8, writeR8, readEr_writeEr, e]

/-- The upper half En after a write of an 8-bit register (R33). -/
theorem upper_writeR8 (k : RegNum) (v : Byte) (n : ErNum) :
    (readEr (writeR8 s k v) n).extractLsb' 16 16 = (readEr s n).extractLsb' 16 16 := by
  by_cases e : n = erOf k <;> simp [writeR8, readEr_writeEr, e]

/-- `R16[j]` after `R16[k] <- v` (R33). -/
theorem readR16_writeR16 (k j : RegNum) (v : Word) :
    readR16 (writeR16 s k v) j = if j = k then v else readR16 s j := by
  by_cases e : erOf j = erOf k
  · by_cases u : upperHalf j = upperHalf k
    · rw [if_pos (regNum_ext e u)]
      cases h : upperHalf k <;> simp [readR16, writeR16, e, u, h]
    · rw [if_neg (fun h => u (by rw [h]))]
      cases h : upperHalf k <;> cases h' : upperHalf j <;> simp_all [readR16, writeR16]
  · rw [if_neg (fun h => e (by rw [h]))]
    simp [readR16, writeR16, readEr_writeEr, e]

/-- A write of an 8-bit register leaves the other general registers alone. -/
theorem readEr_writeR8_other {k : RegNum} {n : ErNum} (v : Byte) (h : n ≠ erOf k) :
    readEr (writeR8 s k v) n = readEr s n := by simp [writeR8, readEr_writeEr, h]

/-- A write of a 16-bit register leaves the other general registers alone. -/
theorem readEr_writeR16_other {k : RegNum} {n : ErNum} (v : Word) (h : n ≠ erOf k) :
    readEr (writeR16 s k v) n = readEr s n := by simp [writeR16, readEr_writeEr, h]

/-- `ER[m]` after ERn is incremented by `k`. -/
theorem readEr_bumpEr (n m : ErNum) (k : Long) :
    readEr (bumpEr s n k) m = if m = n then readEr s n + k else readEr s m := readEr_writeEr s n m _

/-- `ER[m]` after ERn is decremented by `k`. -/
theorem readEr_dropEr (n m : ErNum) (k : Long) :
    readEr (dropEr s n k) m = if m = n then readEr s n - k else readEr s m := readEr_writeEr s n m _

end Sys2Proof.Machine
end

