-- ==== Sys2Proof/Laws/Memory.lean ====
section
/-!
SUPPORT. What memory does: one lemma for each operation on the data, and for each memory access everything it can answer.
Every operation keeps the canonical form (`Memory.wf`).
-/

namespace Sys2Proof.Machine

/-! ### Sequencing -/

@[simp] theorem andThen_next {α β : Type} (a : α) (f : α → Res β) : andThen (.next a) f = f a := rfl
@[simp] theorem andThen_fault {α β : Type} (e : Fault) (f : α → Res β) : andThen (.fault e) f = .fault e := rfl
@[simp] theorem andThen_refused {α β : Type} (e : Refusal) (f : α → Res β) : andThen (.refused e) f = .refused e := rfl

/-- A sequence answers a value exactly when both its parts do. -/
theorem andThen_eq_next {α β : Type} {r : Res α} {f : α → Res β} {b : β} :
    andThen r f = .next b ↔ ∃ a, r = .next a ∧ f a = .next b := by
  cases r <;> simp

/-! ### The data -/

/-- Reading after storing. -/
theorem memGet_memSet (m : Memory) (a b : Nat) (v : Byte) :
    memGet (memSet m a v) b = if a = b then some v else memGet m b := by
  induction m with
  | nil => simp [memSet, memGet]
  | cons c m ih =>
    obtain ⟨x, w⟩ := c
    simp only [memSet]
    split
    · simp [memGet]
    · split
      · next h => subst h; simp only [memGet]; split <;> rfl
      · next h => simp only [memGet, ih]; split <;> split <;> simp_all

/-- A listed byte is a cell of the memory. -/
theorem memGet_mem {m : Memory} {a : Nat} {v : Byte} (h : memGet m a = some v) : (a, v) ∈ m := by
  induction m with
  | nil => simp [memGet] at h
  | cons c m ih =>
    simp only [memGet] at h
    split at h
    · next e => simp only [Option.some.injEq] at h; subst e h; exact List.mem_cons_self
    · exact List.mem_cons_of_mem _ (ih h)

/-- The addresses of a memory after a store. -/
theorem mem_memSet {m : Memory} {a : Nat} {v : Byte} {c : Host.Cell} (h : c ∈ memSet m a v) :
    c = (a, v) ∨ c ∈ m := by
  induction m with
  | nil => simpa [memSet] using h
  | cons d m ih =>
    simp only [memSet] at h
    split at h
    · simpa using h
    · split at h
      · rcases List.mem_cons.1 h with h | h <;> simp [h]
      · rcases List.mem_cons.1 h with h | h
        · simp [h]
        · rcases ih h with h | h <;> simp [h]

/-- Storing a byte keeps the canonical form. -/
theorem memSet_wf {m : Memory} {a : Nat} (v : Byte) (h : m.wf) (ha : a < 16777216) : (memSet m a v).wf := by
  refine ⟨?_, fun c hc => ?_⟩
  · have hp := h.1
    clear h
    induction m with
    | nil => simp [memSet]
    | cons d m ih =>
      rw [List.pairwise_cons] at hp
      simp only [memSet]
      split
      · next lt =>
        refine List.pairwise_cons.2 ⟨fun c hc => ?_, List.pairwise_cons.2 hp⟩
        rcases List.mem_cons.1 hc with rfl | hc
        · exact lt
        · exact Nat.lt_trans lt (hp.1 c hc)
      · split
        · next e => subst e; exact List.pairwise_cons.2 hp
        · refine List.pairwise_cons.2 ⟨fun c hc => ?_, ih hp.2⟩
          rcases mem_memSet hc with rfl | hc
          · simp only; omega
          · exact hp.1 c hc
  · rcases mem_memSet hc with rfl | hc
    · exact ha
    · exact h.2 c hc

/-- The addresses of a list after one more is added. -/
theorem mem_addAddress (l : List Nat) (a b : Nat) : b ∈ addAddress l a ↔ b = a ∨ b ∈ l := by
  induction l with
  | nil => simp [addAddress]
  | cons c l ih =>
    simp only [addAddress]
    split
    · simp
    · split
      · next e => subst e; simp
      · simp only [List.mem_cons, ih]; grind

/-- Adding an address keeps the list strictly rising. -/
theorem addAddress_rising {l : List Nat} (a : Nat) (h : l.Pairwise (· < ·)) : (addAddress l a).Pairwise (· < ·) := by
  induction l with
  | nil => simp [addAddress]
  | cons c l ih =>
    rw [List.pairwise_cons] at h
    simp only [addAddress]
    split
    · next lt =>
      refine List.pairwise_cons.2 ⟨fun b hb => ?_, List.pairwise_cons.2 h⟩
      rcases List.mem_cons.1 hb with rfl | hb
      · exact lt
      · exact Nat.lt_trans lt (h.1 b hb)
    · split
      · exact List.pairwise_cons.2 h
      · refine List.pairwise_cons.2 ⟨fun b hb => ?_, ih h.2⟩
        rcases (mem_addAddress l a b).1 hb with rfl | hb
        · omega
        · exact h.1 b hb

/-! ### Addresses -/

/-- A bus address is a 24-bit one. -/
theorem busAddr_lt (p : Platform) (a : Addr) : busAddr p a < 16777216 := by
  have := a.isLt
  unfold busAddr
  split <;> omega

/-- An even address as a number. -/
theorem evenAddr_toNat (a : Addr) : (evenAddr a).toNat = a.toNat / 2 * 2 := by
  have e : evenAddr a = (a >>> 1) <<< 1 := by
    ext i hi
    interval_cases i <;> simp [evenAddr]
  have := a.isLt
  rw [e]
  simp only [BitVec.toNat_shiftLeft, BitVec.toNat_ushiftRight, Nat.shiftRight_eq_div_pow, Nat.shiftLeft_eq]
  omega

@[simp] theorem evenAddr_evenAddr (a : Addr) : evenAddr (evenAddr a) = evenAddr a := by
  apply BitVec.eq_of_toNat_eq; simp only [evenAddr_toNat]; omega

/-! ### One byte -/

/-- Everything reading a byte can answer. -/
theorem readByte_eq_next {s : State} {a : Addr} {v : Byte} :
    readByte s a = .next v ↔
      (classOf s.platform (busAddr s.platform a) = .ram ∨ classOf s.platform (busAddr s.platform a) = .rom) ∧
        memGet s.mem (busAddr s.platform a) = some v := by
  unfold readByte
  cases classOf s.platform (busAddr s.platform a) <;> cases memGet s.mem (busAddr s.platform a) <;> simp

/-- Reading a byte needs only the memory and the platform. -/
theorem readByte_congr {s t : State} (hm : t.mem = s.mem) (hp : t.platform = s.platform) (a : Addr) :
    readByte t a = readByte s a := by
  unfold readByte; rw [hm, hp]

/-- Everything writing a byte can answer: only `ram` is written, and nothing but memory and its record changes. -/
theorem writeByte_eq_next {s t : State} {a : Addr} {v : Byte} :
    writeByte s a v = .next t ↔
      classOf s.platform (busAddr s.platform a) = .ram ∧
        t = s.setMem (memSet s.mem (busAddr s.platform a) v) (addAddress s.stored (busAddr s.platform a)) := by
  unfold writeByte
  cases classOf s.platform (busAddr s.platform a) <;> simp [eq_comm]

/-- Reading after writing: the byte itself, and every byte at another bus address. -/
theorem readByte_writeByte {s t : State} {a : Addr} {v : Byte} (h : writeByte s a v = .next t) (b : Addr) :
    readByte t b = if busAddr s.platform a = busAddr s.platform b then .next v else readByte s b := by
  obtain ⟨hc, rfl⟩ := writeByte_eq_next.1 h
  unfold readByte
  simp only [setMem_platform, setMem_mem, memGet_memSet]
  by_cases e : busAddr s.platform a = busAddr s.platform b
  · rw [← e, hc]; simp
  · simp [e]

/-! ### Words and longwords -/

/-- Reading a word needs only the memory and the platform. -/
theorem readWord_congr {s t : State} (hm : t.mem = s.mem) (hp : t.platform = s.platform) (a : Addr) :
    readWord t a = readWord s a := by
  unfold readWord; simp only [readByte_congr hm hp]

/-- Reading a longword needs only the memory and the platform. -/
theorem readLong_congr {s t : State} (hm : t.mem = s.mem) (hp : t.platform = s.platform) (a : Addr) :
    readLong t a = readLong s a := by
  unfold readLong; simp only [readWord_congr hm hp]

/-- Everything reading a word can answer. -/
theorem readWord_eq_next {s : State} {a : Addr} {v : Word} :
    readWord s a = .next v ↔
      ∃ h l, readByte s (evenAddr a) = .next h ∧ readByte s (evenAddr a + 1#24) = .next l ∧ v = h ++ l := by
  simp only [readWord, andThen_eq_next, Host.Outcome.next.injEq]
  constructor
  · rintro ⟨h, hh, l, hl, rfl⟩; exact ⟨h, l, hh, hl, rfl⟩
  · rintro ⟨h, l, hh, hl, rfl⟩; exact ⟨h, hh, l, hl, rfl⟩

/-- Everything reading a longword can answer. -/
theorem readLong_eq_next {s : State} {a : Addr} {v : Long} :
    readLong s a = .next v ↔
      ∃ h l, readWord s (evenAddr a) = .next h ∧ readWord s (evenAddr a + 2#24) = .next l ∧ v = h ++ l := by
  simp only [readLong, andThen_eq_next, Host.Outcome.next.injEq]
  constructor
  · rintro ⟨h, hh, l, hl, rfl⟩; exact ⟨h, l, hh, hl, rfl⟩
  · rintro ⟨h, l, hh, hl, rfl⟩; exact ⟨h, hh, l, hl, rfl⟩

/-- Everything writing a word can answer. -/
theorem writeWord_eq_next {s t : State} {a : Addr} {v : Word} :
    writeWord s a v = .next t ↔
      ∃ s1, writeByte s (evenAddr a) (v.extractLsb' 8 8) = .next s1 ∧
        writeByte s1 (evenAddr a + 1#24) (v.extractLsb' 0 8) = .next t := by
  simp [writeWord, andThen_eq_next]

/-- Everything writing a longword can answer. -/
theorem writeLong_eq_next {s t : State} {a : Addr} {v : Long} :
    writeLong s a v = .next t ↔
      ∃ s1, writeWord s (evenAddr a) (v.extractLsb' 16 16) = .next s1 ∧
        writeWord s1 (evenAddr a + 2#24) (v.extractLsb' 0 16) = .next t := by
  simp [writeLong, andThen_eq_next]

/-! ### What a memory write leaves alone -/

/-- `t` differs from `s` in memory and its record alone, both keep their form, and only `ram` has been stored to. -/
structure MemoryOnly (s t : State) : Prop where
  er : t.er = s.er
  pc : t.pc = s.pc
  ccr : t.ccr = s.ccr
  sleeping : t.sleeping = s.sleeping
  irq : t.irq = s.irq
  startPending : t.startPending = s.startPending
  draws : t.draws = s.draws
  platform : t.platform = s.platform
  wf : s.mem.wf → t.mem.wf
  rising : s.stored.Pairwise (· < ·) → t.stored.Pairwise (· < ·)
  held : (∀ a ∈ s.stored, memGet s.mem a ≠ none ∧ classOf s.platform a = .ram) →
    ∀ a ∈ t.stored, memGet t.mem a ≠ none ∧ classOf t.platform a = .ram
  others : ∀ a, classOf s.platform a ≠ .ram → memGet t.mem a = memGet s.mem a

theorem MemoryOnly.trans {s t u : State} (h : MemoryOnly s t) (k : MemoryOnly t u) : MemoryOnly s u where
  er := k.er.trans h.er
  pc := k.pc.trans h.pc
  ccr := k.ccr.trans h.ccr
  sleeping := k.sleeping.trans h.sleeping
  irq := k.irq.trans h.irq
  startPending := k.startPending.trans h.startPending
  draws := k.draws.trans h.draws
  platform := k.platform.trans h.platform
  wf := fun w => k.wf (h.wf w)
  rising := fun w => k.rising (h.rising w)
  held := fun w => k.held (h.held w)
  others := fun a ha => (k.others a (by rw [h.platform]; exact ha)).trans (h.others a ha)

theorem writeByte_memoryOnly {s t : State} {a : Addr} {v : Byte} (h : writeByte s a v = .next t) : MemoryOnly s t := by
  obtain ⟨hc, rfl⟩ := writeByte_eq_next.1 h
  refine ⟨rfl, rfl, rfl, rfl, rfl, rfl, rfl, rfl, fun w => memSet_wf v w (busAddr_lt _ _),
    fun w => addAddress_rising _ w, fun w b hb => ?_, fun b hb => ?_⟩
  · simp only [setMem_stored, setMem_mem, setMem_platform, memGet_memSet] at hb ⊢
    rcases (mem_addAddress _ _ _).1 hb with rfl | hb
    · simp [hc]
    · have := w b hb
      refine ⟨?_, this.2⟩
      split
      · simp
      · exact this.1
  · simp only [setMem_mem, memGet_memSet]
    split
    · next e => rw [← e, hc] at hb; exact absurd rfl hb
    · rfl

theorem writeWord_memoryOnly {s t : State} {a : Addr} {v : Word} (h : writeWord s a v = .next t) : MemoryOnly s t := by
  obtain ⟨_, h1, h2⟩ := writeWord_eq_next.1 h
  exact (writeByte_memoryOnly h1).trans (writeByte_memoryOnly h2)

theorem writeLong_memoryOnly {s t : State} {a : Addr} {v : Long} (h : writeLong s a v = .next t) : MemoryOnly s t := by
  obtain ⟨_, h1, h2⟩ := writeLong_eq_next.1 h
  exact (writeWord_memoryOnly h1).trans (writeWord_memoryOnly h2)

end Sys2Proof.Machine
end

