-- ==== Sys2Proof/Laws/Flags.lean ====
section
/-!
SUPPORT. What the CCR operations do, bit by bit (spec/10_state.md R50): reading a flag after one was written, and when two
CCR values are equal.
-/

namespace Sys2Proof.Machine

/-- Bit `i` after bit `k` was made `b`. -/
theorem getLsbD_putBit {w : Nat} (v : BitVec w) (k i : Nat) (b : Bool) :
    (putBit v k b).getLsbD i = if i = k then (b && decide (k < w)) else v.getLsbD i := by
  unfold putBit
  by_cases hi : i < w
  · have e : (1#w <<< k).getLsbD i = decide (i = k) := by
      simp only [BitVec.getLsbD_shiftLeft, BitVec.getLsbD_one, hi, decide_true, Bool.true_and]
      by_cases h : i = k
      · subst h; simp; omega
      · simp [h]; omega
    cases b <;>
      simp only [Bool.false_eq_true, if_false, if_true, BitVec.getLsbD_and, BitVec.getLsbD_or, BitVec.getLsbD_not, e, hi,
        decide_true, Bool.true_and] <;>
      by_cases h : i = k <;> simp [h]
    subst h; simpa using hi
  · have e : ∀ x : BitVec w, x.getLsbD i = false := fun x => BitVec.getLsbD_of_ge x i (by omega)
    rw [e, e]
    split
    · next h => subst h; simp [hi]
    · rfl

/-- Every CCR bit lies within the byte. -/
theorem CcrBit.pos_lt (f : CcrBit) : f.pos < 8 := by cases f <;> decide

/-- The eight CCR bits have eight positions. -/
theorem CcrBit.pos_inj {f g : CcrBit} : f.pos = g.pos ↔ f = g := by cases f <;> cases g <;> decide

/-- Reading a flag after one was written. -/
@[simp] theorem ccrGet_ccrPut (ccr : Byte) (f g : CcrBit) (b : Bool) :
    ccrGet (ccrPut ccr f b) g = if g = f then b else ccrGet ccr g := by
  simp [ccrGet, ccrPut, getLsbD_putBit, CcrBit.pos_inj, f.pos_lt]

/-- Two CCR values with the same eight flags are equal. -/
theorem ccr_ext {a b : Byte} (h : ∀ f, ccrGet a f = ccrGet b f) : a = b := by
  apply BitVec.eq_of_getLsbD_eq
  intro i hi
  interval_cases i
  · exact h .c
  · exact h .v
  · exact h .z
  · exact h .n
  · exact h .u
  · exact h .h
  · exact h .ui
  · exact h .i

/-- A flag of a CCR value that was masked, joined or inverted as a whole (ANDC, ORC, XORC). -/
@[simp] theorem ccrGet_and (a b : Byte) (f : CcrBit) : ccrGet (a &&& b) f = (ccrGet a f && ccrGet b f) := by
  simp [ccrGet]
@[simp] theorem ccrGet_or (a b : Byte) (f : CcrBit) : ccrGet (a ||| b) f = (ccrGet a f || ccrGet b f) := by
  simp [ccrGet]
@[simp] theorem ccrGet_xor (a b : Byte) (f : CcrBit) : ccrGet (a ^^^ b) f = (ccrGet a f ^^ ccrGet b f) := by
  simp [ccrGet]

/-- The flags after `ccrPutNZ`. -/
theorem ccrGet_ccrPutNZ {w : Nat} (ccr : Byte) (v : BitVec w) (f : CcrBit) :
    ccrGet (ccrPutNZ ccr v) f = if f = .z then v == 0#w else if f = .n then v.msb else ccrGet ccr f := by
  simp [ccrPutNZ]

/-- The flags after `ccrPutNZV0`. -/
theorem ccrGet_ccrPutNZV0 {w : Nat} (ccr : Byte) (v : BitVec w) (f : CcrBit) :
    ccrGet (ccrPutNZV0 ccr v) f =
      if f = .v then false else if f = .z then v == 0#w else if f = .n then v.msb else ccrGet ccr f := by
  simp [ccrPutNZV0, ccrGet_ccrPutNZ]

/-- The flags after an addition or a subtraction. -/
theorem ccrGet_ccrPutArith {w : Nat} (ccr : Byte) (t : Arith w) (f : CcrBit) :
    ccrGet (ccrPutArith ccr t) f =
      match f with
      | .h => t.h | .n => t.n | .z => t.z | .v => t.v | .c => t.c
      | .i => ccrGet ccr .i | .ui => ccrGet ccr .ui | .u => ccrGet ccr .u := by
  cases f <;> simp [ccrPutArith]

/-- The flags after a shift. -/
theorem ccrGet_ccrPutShift {w : Nat} (ccr : Byte) (t : Shifted w) (f : CcrBit) :
    ccrGet (ccrPutShift ccr t) f =
      match f with
      | .n => t.result.msb | .z => t.result == 0#w | .v => t.v | .c => t.c
      | .h => ccrGet ccr .h | .i => ccrGet ccr .i | .ui => ccrGet ccr .ui | .u => ccrGet ccr .u := by
  cases f <;> simp [ccrPutShift, ccrGet_ccrPutNZ]

end Sys2Proof.Machine
end

