-- ==== Sys2Proof/Laws/Ops.lean ====
section
/-!
SUPPORT. What the shared operations can answer: for each, everything it can do when it gives a next state.
-/

namespace Sys2Proof.Machine

variable {s t : State}

/-! ### Moves to memory -/

/-- A byte store with its flags. -/
theorem storeByte_eq_next {a : Addr} {v : Byte} :
    storeByte s a v = .next t ↔ ∃ u, writeByte s a v = .next u ∧ t = u.setCcr (ccrPutNZV0 u.ccr v) := by
  simp [storeByte, andThen_eq_next, @eq_comm _ t]

/-- A word store with its flags. -/
theorem storeWord_eq_next {a : Addr} {v : Word} :
    storeWord s a v = .next t ↔ ∃ u, writeWord s a v = .next u ∧ t = u.setCcr (ccrPutNZV0 u.ccr v) := by
  simp [storeWord, andThen_eq_next, @eq_comm _ t]

/-- A longword store with its flags. -/
theorem storeLong_eq_next {a : Addr} {v : Long} :
    storeLong s a v = .next t ↔ ∃ u, writeLong s a v = .next u ∧ t = u.setCcr (ccrPutNZV0 u.ccr v) := by
  simp [storeLong, andThen_eq_next, @eq_comm _ t]

/-- A bit of a memory byte changed. -/
theorem changeBit_eq_next {a : Addr} {n : BitVec 3} {f : Bool → Bool} :
    changeBit s a n f = .next t ↔ ∃ b, readByte s a = .next b ∧ writeByte s a (withBit b n (f (bitOf b n))) = .next t := by
  simp [changeBit, andThen_eq_next]

/-! ### Control transfer -/

/-- Control is transferred to even addresses alone. -/
theorem jumpTo_eq_next {a : Addr} : jumpTo s a = .next t ↔ a.getLsbD 0 = false ∧ t = s.setPc a := by
  unfold jumpTo
  cases h : a.getLsbD 0 <;> simp [eq_comm]

/-- A branch is taken or not. -/
theorem branchIf_eq_next {k : Cond} {d : BranchDisp} :
    branchIf s k d = .next t ↔
      (k.holds s.ccr = true ∧ (s.pc + displacement d).getLsbD 0 = false ∧ t = s.setPc (s.pc + displacement d)) ∨
        (k.holds s.ccr = false ∧ t = s) := by
  unfold branchIf
  cases k.holds s.ccr <;> simp [jumpTo_eq_next, @eq_comm _ t]

/-- A table entry is read from memory in the width of the mode. -/
theorem readEntry_eq_next {a x : Addr} :
    readEntry s a = .next x ↔
      (s.platform.mode = .advanced ∧ ∃ w, readLong s a = .next w ∧ x = w.extractLsb' 0 24) ∨
        (s.platform.mode = .normal ∧ ∃ w, readWord s a = .next w ∧ x = w.zeroExtend 24) := by
  unfold readEntry
  cases s.platform.mode <;> simp [andThen_eq_next, @eq_comm _ x]

/-- A return address is pushed: SP moves down, then memory alone changes. -/
theorem pushReturn_eq_next :
    pushReturn s = .next t ↔
      (s.platform.mode = .advanced ∧
        writeLong ((dropEr s spNum 4#32).drawn 1) (eaInd (dropEr s spNum 4#32) spNum)
          (Config.freeBits 8 s.draws ++ s.pc) = .next t) ∨
        (s.platform.mode = .normal ∧
          writeWord (dropEr s spNum 2#32) (eaInd (dropEr s spNum 2#32) spNum) (s.pc.extractLsb' 0 16) = .next t) := by
  unfold pushReturn
  cases s.platform.mode <;> simp

/-- A return address is popped: SP moves up and PC is loaded. -/
theorem popReturn_eq_next :
    popReturn s = .next t ↔
      (s.platform.mode = .advanced ∧ ∃ w, readLong s (eaInd s spNum) = .next w ∧
        jumpTo (bumpEr s spNum 4#32) (w.extractLsb' 0 24) = .next t) ∨
        (s.platform.mode = .normal ∧ ∃ w, readWord s (eaInd s spNum) = .next w ∧
          jumpTo (bumpEr s spNum 2#32) (w.zeroExtend 24) = .next t) := by
  unfold popReturn
  cases s.platform.mode <;> simp [andThen_eq_next]

/-! ### Exceptions -/

/-- Exception entry: the frame is stored, I is set, and PC comes from the vector. -/
theorem exceptionEntry_eq_next {v : VectorNum} :
    exceptionEntry v s = .next t ↔
      ∃ u target,
        writeLong (afterFrame (dropEr (s.setSleeping false) spNum 4#32))
          (eaInd (dropEr (s.setSleeping false) spNum 4#32) spNum) (exceptionFrame s) = .next u ∧
        readVector (u.setCcr (ccrPut u.ccr .i true)) v = .next target ∧ target.getLsbD 0 = false ∧
        t = (u.setCcr (ccrPut u.ccr .i true)).setPc target := by
  simp [exceptionEntry, andThen_eq_next, jumpTo_eq_next]

/-- Return from exception: CCR and PC come from the frame, SP moves up by 4. -/
theorem exceptionReturn_eq_next :
    exceptionReturn s = .next t ↔
      ∃ w target, readLong s (eaInd s spNum) = .next w ∧
        target = (match s.platform.mode with
          | .advanced => w.extractLsb' 0 24
          | .normal => (w.extractLsb' 0 16).zeroExtend 24) ∧
        target.getLsbD 0 = false ∧ t = ((bumpEr s spNum 4#32).setCcr (w.extractLsb' 24 8)).setPc target := by
  unfold exceptionReturn
  cases s.platform.mode <;> simp [andThen_eq_next, jumpTo_eq_next]

/-- What a step does when no start sequence is pending: an accepted request, a sleep, or `run`. -/
theorem checkThen_eq_next {run : State → Res State} :
    checkThen s run = .next t ↔
      (∃ r, acceptedRequest s = some r ∧ exceptionEntry r.vector (afterCheck s) = .next t) ∨
        (acceptedRequest s = none ∧ s.sleeping = true ∧ t = afterCheck s) ∨
        (acceptedRequest s = none ∧ s.sleeping = false ∧ run (afterCheck s) = .next t) := by
  unfold checkThen
  cases acceptedRequest s <;> cases s.sleeping <;> simp [eq_comm]

/-- An accepted request is one of those presented, acceptable, and non-maskable if one of them is (R446). -/
theorem acceptedRequest_spec {r : Request} (h : acceptedRequest s = some r) :
    r ∈ s.irq.headD [] ∧ acceptable s r = true ∧ ((∃ q ∈ s.irq.headD [], q.nmi = true) → r.nmi = true) := by
  unfold acceptedRequest chooseRequest at h
  split at h
  · next q e =>
    simp only [Option.some.injEq] at h
    subst h
    have m := List.mem_of_find?_eq_some e
    rw [List.mem_filter] at m
    exact ⟨m.1, m.2, fun _ => by simpa using List.find?_some e⟩
  · next e =>
    have m := List.mem_of_head? h
    rw [List.mem_filter] at m
    refine ⟨m.1, m.2, fun ⟨q, hq, hn⟩ => ?_⟩
    have := List.find?_eq_none.1 e q (List.mem_filter.2 ⟨hq, by simp [acceptable, hn]⟩)
    exact absurd hn this

/-! ### Fetching -/

/-- The fetch finds an instruction exactly where the bytes at PC decode to one. -/
theorem fetchInstr_eq_next {i : Instr} {n : Nat} :
    fetchInstr s = .next (i, n) ↔ decode (codeBytes s maxLength (evenAddr s.pc)) = .ok i n := by
  unfold fetchInstr
  cases e : decode (codeBytes s maxLength (evenAddr s.pc)) with
  | ok j m => simp [e]
  | undefined => simp [e]
  | short =>
    simp only [e]
    cases fetchByte s (evenAddr s.pc + BitVec.ofNat 24 (codeBytes s maxLength (evenAddr s.pc)).length) <;> simp [andThen]

/-- An instruction step runs the instruction at PC with PC moved past it (R18). -/
theorem runInstr_eq {i : Instr} {n : Nat} (h : decode (codeBytes s maxLength (evenAddr s.pc)) = .ok i n) :
    runInstr s = exec i (advancePc s n) := by
  unfold runInstr; rw [fetchInstr_eq_next.2 h]; rfl

/-- Bytes that can be fetched from `a` on begin the bytes the fetch takes. -/
theorem codeBytes_prefix : ∀ {n : Nat} {a : Addr} {l : List Byte}, l.length ≤ n →
    (∀ k (h : k < l.length), fetchByte s (a + BitVec.ofNat 24 k) = .next l[k]) → ∃ r, codeBytes s n a = l ++ r
  | n, a, [], _, _ => ⟨_, rfl⟩
  | n + 1, a, b :: l, hn, hf => by
    have h0 := hf 0 (by simp)
    simp only [BitVec.add_zero, List.getElem_cons_zero] at h0
    obtain ⟨r, hr⟩ := codeBytes_prefix (n := n) (a := a + 1#24) (l := l) (by simpa using hn) fun k h => by
      have := hf (k + 1) (by simpa using h)
      rwa [List.getElem_cons_succ, show a + BitVec.ofNat 24 (k + 1) = a + 1#24 + BitVec.ofNat 24 k by
        rw [BitVec.ofNat_add]; ac_rfl] at this
    exact ⟨r, by simp only [codeBytes, h0, hr, List.cons_append]⟩

/-- The fetch takes no byte from the first one on that cannot be fetched. -/
theorem codeBytes_stop : ∀ {n : Nat} {a : Addr} {l : List Byte},
    (∀ k (h : k < l.length), fetchByte s (a + BitVec.ofNat 24 k) = .next l[k]) →
    (∀ b, fetchByte s (a + BitVec.ofNat 24 l.length) ≠ .next b) → l.length < n → codeBytes s n a = l
  | n + 1, a, [], _, hs, _ => by
    have h0 : ∀ b, fetchByte s a ≠ .next b := by simpa using hs
    unfold codeBytes
    split
    · next b e => exact absurd e (h0 b)
    · rfl
  | n + 1, a, b :: l, hf, hs, hn => by
    have step (k : Nat) : a + BitVec.ofNat 24 (k + 1) = a + 1#24 + BitVec.ofNat 24 k := by
      rw [BitVec.ofNat_add]; ac_rfl
    have h0 := hf 0 (by simp)
    simp only [BitVec.add_zero, List.getElem_cons_zero] at h0
    have ih := codeBytes_stop (n := n) (a := a + 1#24) (l := l)
      (fun k h => by have := hf (k + 1) (by simpa using h); rwa [List.getElem_cons_succ, step] at this)
      (fun c => by rw [← step]; exact hs c) (by simpa using hn)
    simp only [codeBytes, h0, ih]

/-- Fetched bytes that are no instruction are refused, whatever follows them (R148). -/
theorem fetchInstr_undefined {l : List Byte} (hn : l.length ≤ maxLength)
    (hf : ∀ k (h : k < l.length), fetchByte s (evenAddr s.pc + BitVec.ofNat 24 k) = .next l[k])
    (hd : decode l = .undefined) : fetchInstr s = .refused .undefinedEncoding := by
  obtain ⟨r, hr⟩ := codeBytes_prefix hn hf
  simp only [fetchInstr, hr, decode_append (l := l) (by simp [hd]) r, hd]

/-- Where the bytes before a byte that cannot be fetched do not make up an instruction, the fetch stops as that byte does
(log 27). -/
theorem fetchInstr_short {l : List Byte} (hn : l.length < maxLength)
    (hf : ∀ k (h : k < l.length), fetchByte s (evenAddr s.pc + BitVec.ofNat 24 k) = .next l[k])
    (hs : ∀ b, fetchByte s (evenAddr s.pc + BitVec.ofNat 24 l.length) ≠ .next b) (hd : decode l = .short) :
    fetchInstr s = andThen (fetchByte s (evenAddr s.pc + BitVec.ofNat 24 l.length)) fun _ => .refused .undefinedEncoding := by
  simp only [fetchInstr, codeBytes_stop hf hs hn, hd]

/-! ### CCR in memory -/

/-- LDC.W from memory. -/
theorem loadCcr_eq_next {a : Addr} {u : State} :
    loadCcr s a u = .next t ↔ ∃ w, readWord s a = .next w ∧ t = u.setCcr (w.extractLsb' 8 8) := by
  simp [loadCcr, andThen_eq_next, @eq_comm _ t]

/-- STC.W to memory: memory alone changes, and one free value is drawn. -/
theorem saveCcr_memoryOnly {a : Addr} (h : saveCcr s a = .next t) : MemoryOnly (s.drawn 1) t := writeWord_memoryOnly h

end Sys2Proof.Machine
end

