-- ==== Sys2Proof/Laws/Effects.lean ====
section
/-!
SUPPORT. Lemmas about the terms of claims (Sys2Proof/Safety.lean): when memory or the flags are as a claim says, and how
the sums, differences and signs on exact integers read on bit vectors.
-/

namespace Sys2Proof.Machine

variable {s t u : State}

/-! ### Memory -/

/-- A state with the same memory, record and platform has nothing stored. -/
theorem memoryAfter_nil (hm : t.mem = s.mem) (hs : t.stored = s.stored) (hp : t.platform = s.platform) :
    MemoryAfter s t [] :=
  ⟨fun a => by simp [readByte_congr hm hp], fun b => by simp [hs]⟩

/-- A bus address is an address modulo the size of the space (spec/20_memory.md R72). -/
theorem busAddr_eq_mod (p : Platform) (a : Addr) :
    busAddr p a = a.toNat % (match p.mode with | .advanced => 16777216 | .normal => 65536) := by
  have := a.isLt
  unfold busAddr
  cases p.mode <;> simp <;> omega

/-- The bytes of a wide access lie at different bus addresses, also where the space wraps. -/
theorem busAddr_ne (p : Platform) (a : Addr) {i j : Nat} (hi : i < 4) (hj : j < 4) (h : i ≠ j) :
    busAddr p (a + BitVec.ofNat 24 i) ≠ busAddr p (a + BitVec.ofNat 24 j) := by
  simp only [busAddr_eq_mod, BitVec.toNat_add, BitVec.toNat_ofNat]
  have := a.isLt
  cases p.mode <;> simp only <;> omega

/-- Two stores one after the other, to different bytes. -/
theorem MemoryAfter.append {c d : List (Addr × Byte)} (h : MemoryAfter s u c) (k : MemoryAfter u t d)
    (hp : u.platform = s.platform)
    (apart : ∀ x ∈ c, ∀ y ∈ d, busAddr s.platform x.1 ≠ busAddr s.platform y.1) : MemoryAfter s t (c ++ d) := by
  refine ⟨fun a => ?_, fun b => ?_⟩
  · rw [k.1 a, h.1 a, hp, List.find?_append]
    cases e1 : c.find? fun x => busAddr s.platform x.1 == busAddr s.platform a with
    | none => simp
    | some x =>
      cases e2 : d.find? fun y => busAddr s.platform y.1 == busAddr s.platform a with
      | none => simp
      | some y =>
        have q1 := List.find?_some e1
        have q2 := List.find?_some e2
        simp only [beq_iff_eq] at q1 q2
        exact absurd (q1.trans q2.symm) (apart x (List.mem_of_find?_eq_some e1) y (List.mem_of_find?_eq_some e2))
  · rw [k.2 b, h.2 b, hp]
    simp only [List.mem_append, or_and_right, exists_or, or_assoc]

/-- The even address two bytes on. -/
@[simp] theorem evenAddr_add_two (a : Addr) : evenAddr (evenAddr a + 2#24) = evenAddr a + 2#24 := by
  apply BitVec.eq_of_toNat_eq
  have := a.isLt
  simp only [evenAddr_toNat, BitVec.toNat_add, BitVec.toNat_ofNat]
  omega

/-! ### Signs and zeros -/

/-- The top bit is the sign. -/
theorem msb_eq_neg {w : Nat} (v : BitVec w) : v.msb = decide (v.toInt < 0) := by
  rw [BitVec.toInt_eq_msb_cond]
  have := v.isLt
  cases h : v.msb <;> simp
  norm_cast

/-- A value is 0 when its number is. -/
theorem beq_zero_eq_toNat {w : Nat} (v : BitVec w) : (v == 0#w) = decide (v.toNat = 0) := by
  by_cases h : v = 0#w
  · subst h; simp
  · have : ¬ v.toNat = 0 := fun h' => h (BitVec.eq_of_toNat_eq (by simp [h']))
    simp [h, this]

/-! ### Flags -/

/-- A state with the same CCR has no flag changed. -/
theorem flagsAfter_nil (h : t.ccr = s.ccr) : FlagsAfter s t [] := by
  intro f; simp [h]

/-- The flags of a move or a logic operation. -/
theorem flagsAfter_signZeroClearV {w : Nat} (v : BitVec w) (h : t.ccr = ccrPutNZV0 s.ccr v) :
    FlagsAfter s t (signZeroClearV v) := by
  intro f
  rw [h, ccrGet_ccrPutNZV0, msb_eq_neg, beq_zero_eq_toNat]
  cases f <;> rfl

/-- The sum on integers is the sum on bit vectors. -/
theorem sumOf_eq {w : Nat} (a b : BitVec w) (c : Bool) : sumOf a b c = (addN a b c).result := by
  simp only [sumOf, addN, BitVec.ofInt_add, BitVec.ofInt_toInt]
  apply BitVec.eq_of_toNat_eq
  simp

/-- The difference on integers is the difference on bit vectors. -/
theorem differenceOf_eq {w : Nat} (a b : BitVec w) (c : Bool) : differenceOf a b c = (subN a b c).result := by
  simp only [differenceOf, subN, Int.sub_eq_add_neg, BitVec.ofInt_add, BitVec.ofInt_neg, BitVec.ofInt_toInt,
    BitVec.sub_eq_add_neg]
  rfl

/-- V of an addition tells that the exact signed sum does not fit. -/
theorem addN_v {w : Nat} (hw : w = 8 ∨ w = 16 ∨ w = 32) (a b : BitVec w) (c : Bool) :
    (addN a b c).v = decide ((sumOf a b c).toInt ≠ a.toInt + b.toInt + c.toNat) := by
  rw [Bool.eq_iff_iff, decide_eq_true_iff]
  have ha := a.isLt
  have hb := b.isLt
  rcases hw with rfl | rfl | rfl <;>
    simp only [sumOf, addN, BitVec.msb_eq_decide, BitVec.toInt_eq_toNat_cond, BitVec.toNat_ofNat] <;>
    generalize a.toNat = x at * <;> generalize b.toNat = y at * <;> cases c <;> simp <;> omega

/-- V of a subtraction tells that the exact signed difference does not fit. -/
theorem subN_v {w : Nat} (hw : w = 8 ∨ w = 16 ∨ w = 32) (a b : BitVec w) (c : Bool) :
    (subN a b c).v = decide ((differenceOf a b c).toInt ≠ a.toInt - b.toInt - c.toNat) := by
  rw [Bool.eq_iff_iff, decide_eq_true_iff]
  have ha := a.isLt
  have hb := b.isLt
  rcases hw with rfl | rfl | rfl <;>
    simp only [differenceOf, subN, BitVec.msb_eq_decide, BitVec.toInt_eq_toNat_cond, BitVec.toNat_sub, BitVec.toNat_ofNat] <;>
    generalize a.toNat = x at * <;> generalize b.toNat = y at * <;> cases c <;> simp <;> omega

end Sys2Proof.Machine
end

