-- ==== Sys2Proof/Tests/Slice0.lean ====
section
/-!
SUPPORT. Tests: the checks of WellFormed, every row of the encoding table, vectors of the spec (spec/95_test_vectors.md,
spec/97_derived_vectors.md), and for every obligation with hypotheses a state and operands that meet them.
-/

open Sys2Proof Sys2Proof.Machine

namespace Sys2Proof.Tests

/-! ### States for tests -/

/-- A CPU about to run `code` at H'001000, with registers and memory bytes given; the other registers are 0. -/
def start (mode : Mode) (code : List Byte) (ccr : Byte) (regs : List (ErNum × Long)) (cells : List (Addr × List Byte)) :
    State :=
  let s := State.startDirect { Config.defaultPlatform with mode := mode } [] [] 0x001000#24 0#32
  let s := cells.foldl (fun s c => loadBytes s c.1 c.2) (loadBytes s 0x001000#24 code)
  (regs.foldl (fun s r => writeEr s r.1 r.2) s).setCcr ccr

/-- Memory bytes from an address on are as listed. -/
def holds (t : State) (c : Addr × List Byte) : Bool := codeBytes (t.setMem t.mem []) c.2.length c.1 == c.2

/-- The next state has these registers, CCR, PC and memory bytes. -/
def has (r : Res State) (regs : List (ErNum × Long)) (ccr : Byte) (pc : Addr) (cells : List (Addr × List Byte)) : Bool :=
  match r with
  | .next t => (regs.all fun r => readEr t r.1 == r.2) && t.ccr == ccr && t.pc == pc && cells.all (holds t)
  | _ => false

/-- One step gives these registers, CCR, PC and memory bytes. -/
def gives (s : State) (regs : List (ErNum × Long)) (ccr : Byte) (pc : Addr) (cells : List (Addr × List Byte)) : Bool :=
  has (step s) regs ccr pc cells

/-- One step gives these registers and PC, where CCR holds a free value. -/
def givesRegisters (s : State) (regs : List (ErNum × Long)) (pc : Addr) : Bool :=
  match step s with
  | .next t => (regs.all fun r => readEr t r.1 == r.2) && t.pc == pc
  | _ => false

/-- Refused, with this name. -/
def isRefused (r : Res State) (e : Refusal) : Bool :=
  match r with
  | .refused x => decide (x = e)
  | _ => false

/-- Stopped by a fault, with this name. -/
def isFault (r : Res State) (e : Fault) : Bool :=
  match r with
  | .fault x => decide (x = e)
  | _ => false

/-- What a branch does on a CCR value: taken or not. -/
def taken (i : Instr) (n : Nat) : Bool :=
  has (exec i (start .advanced [] (BitVec.ofNat 8 n) [] [])) [] (BitVec.ofNat 8 n) 0x001010#24 []

/-- The words decode to the instructions, each with its length. -/
def decodesAll (l : List (List Byte × Instr)) : Bool := l.all fun p => decide (decode p.1 = .ok p.2 p.1.length)

/-! ### WellFormed (spec/40_data_transfer.md R187, spec/45_branch.md R380): each check refuses an ill-formed term -/

theorem test_wellFormed_movBLdInc : (Instr.movBLdInc 0 8).wellFormed = false := by decide
theorem test_wellFormed_movWLdInc : (Instr.movWLdInc 1 9).wellFormed = false := by decide
theorem test_wellFormed_movLLdInc : (Instr.movLLdInc 2 2).wellFormed = false := by decide
theorem test_wellFormed_movBStDec : (Instr.movBStDec 0 0).wellFormed = false := by decide
theorem test_wellFormed_movWStDec : (Instr.movWStDec 3 3).wellFormed = false := by decide
theorem test_wellFormed_movLStDec : (Instr.movLStDec 3 3).wellFormed = false := by decide
theorem test_wellFormed_pushW : (Instr.pushW 7).wellFormed = false ∧ (Instr.pushW 15).wellFormed = false := by decide
theorem test_wellFormed_pushL : (Instr.pushL 7).wellFormed = false := by decide
theorem test_wellFormed_popW : (Instr.popW 7).wellFormed = false ∧ (Instr.popW 15).wellFormed = false := by decide
theorem test_wellFormed_popL : (Instr.popL 7).wellFormed = false := by decide
theorem test_wellFormed_jsrInd : (Instr.jsrInd 7).wellFormed = false := by decide
theorem test_wellFormed_accepts : (Instr.movWLdInc 1 8).wellFormed = true ∧ (Instr.movLStDec 3 2).wellFormed = true ∧
    (Instr.pushL 6).wellFormed = true ∧ (Instr.jsrInd 6).wellFormed = true := by decide

/-! ### Decoding: one word for every row of the encoding table (spec/30_encoding.md R147), written from its bit pattern -/

theorem test_decode_movb_to_movb : decodesAll
    [([0xFE, 0x74], .movBImm 0x74 14), ([0x0C, 0x9E], .movBReg 9 14), ([0x68, 0x78], .movBLdInd 7 8),
      ([0x6E, 0x5E, 0x73, 0xAC], .movBLdDisp16 0x73AC 5 14),
      ([0x78, 0x20, 0x6A, 0x23, 0x00, 0x96, 0x5E, 0xDB], .movBLdDisp24 0x965EDB 2 3), ([0x6C, 0x79], .movBLdInc 7 9),
      ([0x2B, 0x7A], .movBLdAbs8 0x7A 11), ([0x6A, 0x0D, 0x9D, 0x2D], .movBLdAbs16 0x9D2D 13),
      ([0x6A, 0x22, 0x00, 0x2F, 0xA9, 0x15], .movBLdAbs24 0x2FA915 2), ([0x68, 0xB8], .movBStInd 8 3),
      ([0x6E, 0xD3, 0x17, 0x37], .movBStDisp16 3 0x1737 5)] = true := by decide

theorem test_decode_movb_to_movw : decodesAll
    [([0x78, 0x60, 0x6A, 0xAD, 0x00, 0xE3, 0xEF, 0xFA], .movBStDisp24 13 0xE3EFFA 6),
      ([0x6C, 0x9B], .movBStDec 11 1), ([0x3A, 0xFC], .movBStAbs8 10 0xFC),
      ([0x6A, 0x87, 0xF6, 0xFB], .movBStAbs16 7 0xF6FB),
      ([0x6A, 0xA8, 0x00, 0xA7, 0x67, 0x78], .movBStAbs24 8 0xA76778),
      ([0x79, 0x0A, 0xBD, 0x2A], .movWImm 0xBD2A 10), ([0x0D, 0xB3], .movWReg 11 3), ([0x69, 0x51], .movWLdInd 5 1),
      ([0x6F, 0x52, 0xD4, 0xEB], .movWLdDisp16 0xD4EB 5 2),
      ([0x78, 0x10, 0x6B, 0x24, 0x00, 0x0F, 0x3E, 0xBE], .movWLdDisp24 0xF3EBE 1 4), ([0x6D, 0x2A], .movWLdInc 2 10)] = true := by decide

theorem test_decode_movw_to_movl : decodesAll
    [([0x6B, 0x0D, 0x07, 0xB4], .movWLdAbs16 0x7B4 13),
      ([0x6B, 0x26, 0x00, 0x76, 0xC4, 0x69], .movWLdAbs24 0x76C469 6), ([0x69, 0xD8], .movWStInd 8 5),
      ([0x6F, 0xDE, 0x32, 0x01], .movWStDisp16 14 0x3201 5),
      ([0x78, 0x30, 0x6B, 0xA4, 0x00, 0xA3, 0xEA, 0x29], .movWStDisp24 4 0xA3EA29 3), ([0x6D, 0x98], .movWStDec 8 1),
      ([0x6B, 0x8B, 0x15, 0xC2], .movWStAbs16 11 0x15C2),
      ([0x6B, 0xA8, 0x00, 0xA7, 0xA1, 0x15], .movWStAbs24 8 0xA7A115),
      ([0x7A, 0x04, 0x47, 0x35, 0xAF, 0x1D], .movLImm 0x4735AF1D 4), ([0x0F, 0xD7], .movLReg 5 7),
      ([0x01, 0x00, 0x69, 0x16], .movLLdInd 1 6)] = true := by decide

theorem test_decode_movl_to_movl : decodesAll
    [([0x01, 0x00, 0x6F, 0x37, 0x41, 0x06], .movLLdDisp16 0x4106 3 7),
      ([0x01, 0x00, 0x78, 0x50, 0x6B, 0x23, 0x00, 0x3A, 0xCB, 0x63], .movLLdDisp24 0x3ACB63 5 3),
      ([0x01, 0x00, 0x6D, 0x11], .movLLdInc 1 1), ([0x01, 0x00, 0x6B, 0x07, 0x90, 0x2B], .movLLdAbs16 0x902B 7),
      ([0x01, 0x00, 0x6B, 0x24, 0x00, 0x1B, 0xA1, 0x1A], .movLLdAbs24 0x1BA11A 4),
      ([0x01, 0x00, 0x69, 0xF1], .movLStInd 1 7), ([0x01, 0x00, 0x6F, 0x93, 0x62, 0xF3], .movLStDisp16 3 0x62F3 1),
      ([0x01, 0x00, 0x78, 0x60, 0x6B, 0xA1, 0x00, 0xD8, 0xE9, 0x4C], .movLStDisp24 1 0xD8E94C 6),
      ([0x01, 0x00, 0x6D, 0xA1], .movLStDec 1 2), ([0x01, 0x00, 0x6B, 0x82, 0xED, 0x53], .movLStAbs16 2 0xED53),
      ([0x01, 0x00, 0x6B, 0xA1, 0x00, 0x78, 0x51, 0x17], .movLStAbs24 1 0x785117)] = true := by decide

theorem test_decode_pushw_to_subb : decodesAll
    [([0x6D, 0xF7], .movWStDec 7 7), ([0x01, 0x00, 0x6D, 0xF6], .movLStDec 6 7), ([0x6D, 0x77], .movWLdInc 7 7),
      ([0x01, 0x00, 0x6D, 0x74], .movLLdInc 7 4), ([0x8A, 0x13], .addBImm 0x13 10), ([0x08, 0xB4], .addBReg 11 4),
      ([0x79, 0x1B, 0xC7, 0x4D], .addWImm 0xC74D 11), ([0x09, 0x56], .addWReg 5 6),
      ([0x7A, 0x13, 0x16, 0x4F, 0x15, 0x14], .addLImm 0x164F1514 3), ([0x0A, 0xB1], .addLReg 3 1),
      ([0x18, 0x7D], .subBReg 7 13)] = true := by decide

theorem test_decode_subw_to_incw : decodesAll
    [([0x79, 0x32, 0xEC, 0x40], .subWImm 0xEC40 2), ([0x19, 0x34], .subWReg 3 4),
      ([0x7A, 0x31, 0xB4, 0xFF, 0x00, 0xAF], .subLImm 0xB4FF00AF 1), ([0x1A, 0x91], .subLReg 1 1),
      ([0x9D, 0x78], .addxBImm 0x78 13), ([0x0E, 0x83], .addxBReg 8 3), ([0xB9, 0xAF], .subxBImm 0xAF 9),
      ([0x1E, 0x48], .subxBReg 4 8), ([0x0A, 0x09], .incB 9), ([0x0B, 0x54], .incW1 4), ([0x0B, 0xDC], .incW2 12)] = true := by decide

theorem test_decode_incl_to_subs : decodesAll
    [([0x0B, 0x77], .incL1 7), ([0x0B, 0xF2], .incL2 2), ([0x1A, 0x07], .decB 7), ([0x1B, 0x5B], .decW1 11),
      ([0x1B, 0xD7], .decW2 7), ([0x1B, 0x71], .decL1 1), ([0x1B, 0xF4], .decL2 4), ([0x0B, 0x04], .adds1 4),
      ([0x0B, 0x82], .adds2 2), ([0x0B, 0x91], .adds4 1), ([0x1B, 0x03], .subs1 3)] = true := by decide

theorem test_decode_subs_to_divxsb : decodesAll
    [([0x1B, 0x87], .subs2 7), ([0x1B, 0x97], .subs4 7), ([0x0F, 0x0A], .daa 10), ([0x1F, 0x05], .das 5),
      ([0x50, 0xF1], .mulxuB 15 1), ([0x52, 0x42], .mulxuW 4 2), ([0x51, 0x7E], .divxuB 7 14),
      ([0x53, 0xA6], .divxuW 10 6), ([0x01, 0xC0, 0x50, 0xA2], .mulxsB 10 2),
      ([0x01, 0xC0, 0x52, 0x12], .mulxsW 1 2), ([0x01, 0xD0, 0x51, 0x48], .divxsB 4 8)] = true := by decide

theorem test_decode_divxsw_to_extuw : decodesAll
    [([0x01, 0xD0, 0x53, 0x51], .divxsW 5 1), ([0xAA, 0xC6], .cmpBImm 0xC6 10), ([0x1C, 0x6E], .cmpBReg 6 14),
      ([0x79, 0x27, 0x4B, 0xDC], .cmpWImm 0x4BDC 7), ([0x1D, 0x22], .cmpWReg 2 2),
      ([0x7A, 0x22, 0x17, 0x11, 0xEB, 0x58], .cmpLImm 0x1711EB58 2), ([0x1F, 0xD6], .cmpLReg 5 6),
      ([0x17, 0x84], .negB 4), ([0x17, 0x91], .negW 1), ([0x17, 0xB5], .negL 5), ([0x17, 0x56], .extuW 6)] = true := by decide

theorem test_decode_extul_to_orb : decodesAll
    [([0x17, 0x73], .extuL 3), ([0x17, 0xDA], .extsW 10), ([0x17, 0xF4], .extsL 4), ([0xEA, 0x21], .andBImm 0x21 10),
      ([0x16, 0x8E], .andBReg 8 14), ([0x79, 0x63, 0x93, 0x18], .andWImm 0x9318 3), ([0x66, 0xE7], .andWReg 14 7),
      ([0x7A, 0x66, 0x2E, 0xCD, 0xCC, 0x0B], .andLImm 0x2ECDCC0B 6), ([0x01, 0xF0, 0x66, 0x23], .andLReg 2 3),
      ([0xC4, 0xE9], .orBImm 0xE9 4), ([0x14, 0xEA], .orBReg 14 10)] = true := by decide

theorem test_decode_orw_to_notb : decodesAll
    [([0x79, 0x4C, 0x3F, 0xE0], .orWImm 0x3FE0 12), ([0x64, 0x43], .orWReg 4 3),
      ([0x7A, 0x46, 0xBD, 0x4A, 0xEA, 0xB1], .orLImm 0xBD4AEAB1 6), ([0x01, 0xF0, 0x64, 0x52], .orLReg 5 2),
      ([0xD7, 0xB0], .xorBImm 0xB0 7), ([0x15, 0xF8], .xorBReg 15 8), ([0x79, 0x52, 0x9A, 0x82], .xorWImm 0x9A82 2),
      ([0x65, 0x71], .xorWReg 7 1), ([0x7A, 0x51, 0x1A, 0x95, 0x3C, 0xCB], .xorLImm 0x1A953CCB 1),
      ([0x01, 0xF0, 0x65, 0x15], .xorLReg 1 5), ([0x17, 0x05], .notB 5)] = true := by decide

theorem test_decode_notw_to_shlll : decodesAll
    [([0x17, 0x14], .notW 4), ([0x17, 0x36], .notL 6), ([0x10, 0x8C], .shalB 12), ([0x10, 0x97], .shalW 7),
      ([0x10, 0xB3], .shalL 3), ([0x11, 0x87], .sharB 7), ([0x11, 0x9E], .sharW 14), ([0x11, 0xB5], .sharL 5),
      ([0x10, 0x08], .shllB 8), ([0x10, 0x15], .shllW 5), ([0x10, 0x35], .shllL 5)] = true := by decide

theorem test_decode_shlrb_to_rotxlw : decodesAll
    [([0x11, 0x03], .shlrB 3), ([0x11, 0x1F], .shlrW 15), ([0x11, 0x36], .shlrL 6), ([0x12, 0x82], .rotlB 2),
      ([0x12, 0x93], .rotlW 3), ([0x12, 0xB2], .rotlL 2), ([0x13, 0x88], .rotrB 8), ([0x13, 0x99], .rotrW 9),
      ([0x13, 0xB6], .rotrL 6), ([0x12, 0x0E], .rotxlB 14), ([0x12, 0x1A], .rotxlW 10)] = true := by decide

theorem test_decode_rotxll_to_bclr : decodesAll
    [([0x12, 0x35], .rotxlL 5), ([0x13, 0x02], .rotxrB 2), ([0x13, 0x15], .rotxrW 5), ([0x13, 0x32], .rotxrL 2),
      ([0x70, 0x2C], .bsetImmReg 2 12), ([0x7D, 0x10, 0x70, 0x10], .bsetImmInd 1 1),
      ([0x7F, 0x6A, 0x70, 0x30], .bsetImmAbs8 3 0x6A), ([0x60, 0x84], .bsetRnReg 8 4),
      ([0x7D, 0x10, 0x60, 0x10], .bsetRnInd 1 1), ([0x7F, 0x49, 0x60, 0x30], .bsetRnAbs8 3 0x49),
      ([0x72, 0x39], .bclrImmReg 3 9)] = true := by decide

theorem test_decode_bclr_to_bnot : decodesAll
    [([0x7D, 0x20, 0x72, 0x50], .bclrImmInd 5 2), ([0x7F, 0x5D, 0x72, 0x10], .bclrImmAbs8 1 0x5D),
      ([0x62, 0x3F], .bclrRnReg 3 15), ([0x7D, 0x30, 0x62, 0x80], .bclrRnInd 8 3),
      ([0x7F, 0xBC, 0x62, 0xB0], .bclrRnAbs8 11 0xBC), ([0x71, 0x69], .bnotImmReg 6 9),
      ([0x7D, 0x20, 0x71, 0x50], .bnotImmInd 5 2), ([0x7F, 0x09, 0x71, 0x50], .bnotImmAbs8 5 0x9),
      ([0x61, 0xF1], .bnotRnReg 15 1), ([0x7D, 0x30, 0x61, 0x80], .bnotRnInd 8 3),
      ([0x7F, 0x50, 0x61, 0xC0], .bnotRnAbs8 12 0x50)] = true := by decide

theorem test_decode_btst_to_biand : decodesAll
    [([0x73, 0x11], .btstImmReg 1 1), ([0x7C, 0x60, 0x73, 0x50], .btstImmInd 5 6),
      ([0x7E, 0x7C, 0x73, 0x10], .btstImmAbs8 1 0x7C), ([0x63, 0x2C], .btstRnReg 2 12),
      ([0x7C, 0x30, 0x63, 0x50], .btstRnInd 5 3), ([0x7E, 0x13, 0x63, 0x30], .btstRnAbs8 3 0x13),
      ([0x76, 0x18], .bandReg 1 8), ([0x7C, 0x30, 0x76, 0x50], .bandInd 5 3),
      ([0x7E, 0x0C, 0x76, 0x60], .bandAbs8 6 0xC), ([0x76, 0xEC], .biandReg 6 12),
      ([0x7C, 0x20, 0x76, 0xE0], .biandInd 6 2)] = true := by decide

theorem test_decode_biand_to_bixor : decodesAll
    [([0x7E, 0xF7, 0x76, 0xF0], .biandAbs8 7 0xF7), ([0x74, 0x36], .borReg 3 6),
      ([0x7C, 0x60, 0x74, 0x10], .borInd 1 6), ([0x7E, 0xE7, 0x74, 0x40], .borAbs8 4 0xE7),
      ([0x74, 0x9E], .biorReg 1 14), ([0x7C, 0x40, 0x74, 0xF0], .biorInd 7 4),
      ([0x7E, 0x08, 0x74, 0xF0], .biorAbs8 7 0x8), ([0x75, 0x78], .bxorReg 7 8),
      ([0x7C, 0x10, 0x75, 0x50], .bxorInd 5 1), ([0x7E, 0xAA, 0x75, 0x50], .bxorAbs8 5 0xAA),
      ([0x75, 0xC7], .bixorReg 4 7)] = true := by decide

theorem test_decode_bixor_to_bst : decodesAll
    [([0x7C, 0x10, 0x75, 0xD0], .bixorInd 5 1), ([0x7E, 0x13, 0x75, 0xD0], .bixorAbs8 5 0x13),
      ([0x77, 0x12], .bldReg 1 2), ([0x7C, 0x10, 0x77, 0x60], .bldInd 6 1),
      ([0x7E, 0xE2, 0x77, 0x30], .bldAbs8 3 0xE2), ([0x77, 0xCC], .bildReg 4 12),
      ([0x7C, 0x40, 0x77, 0xB0], .bildInd 3 4), ([0x7E, 0xB2, 0x77, 0xE0], .bildAbs8 6 0xB2),
      ([0x67, 0x58], .bstReg 5 8), ([0x7D, 0x40, 0x67, 0x40], .bstInd 4 4),
      ([0x7F, 0x8B, 0x67, 0x70], .bstAbs8 7 0x8B)] = true := by decide

theorem test_decode_bist_to_bls : decodesAll
    [([0x67, 0x99], .bistReg 1 9), ([0x7D, 0x50, 0x67, 0xF0], .bistInd 7 5),
      ([0x7F, 0x50, 0x67, 0x90], .bistAbs8 1 0x50), ([0x40, 0x9A], .bra (.d8 0x9A)),
      ([0x58, 0x00, 0x16, 0x76], .bra (.d16 0x1676)), ([0x41, 0x7C], .brn (.d8 0x7C)),
      ([0x58, 0x10, 0x05, 0xB5], .brn (.d16 0x5B5)), ([0x42, 0x3B], .bhi (.d8 0x3B)),
      ([0x58, 0x20, 0xF5, 0x18], .bhi (.d16 0xF518)), ([0x43, 0xB3], .bls (.d8 0xB3)),
      ([0x58, 0x30, 0x1C, 0xE7], .bls (.d16 0x1CE7))] = true := by decide

theorem test_decode_bcc_to_bvs : decodesAll
    [([0x44, 0x80], .bcc (.d8 0x80)), ([0x58, 0x40, 0xC7, 0xAB], .bcc (.d16 0xC7AB)),
      ([0x45, 0x9E], .bcs (.d8 0x9E)), ([0x58, 0x50, 0xA8, 0xFF], .bcs (.d16 0xA8FF)),
      ([0x46, 0xEC], .bne (.d8 0xEC)), ([0x58, 0x60, 0x7C, 0x7E], .bne (.d16 0x7C7E)),
      ([0x47, 0x42], .beq (.d8 0x42)), ([0x58, 0x70, 0xE5, 0x7C], .beq (.d16 0xE57C)),
      ([0x48, 0x03], .bvc (.d8 0x3)), ([0x58, 0x80, 0x5E, 0x33], .bvc (.d16 0x5E33)), ([0x49, 0x4E], .bvs (.d8 0x4E))] = true := by decide

theorem test_decode_bvs_to_bgt : decodesAll
    [([0x58, 0x90, 0x24, 0xAB], .bvs (.d16 0x24AB)), ([0x4A, 0xAE], .bpl (.d8 0xAE)),
      ([0x58, 0xA0, 0x9C, 0x9D], .bpl (.d16 0x9C9D)), ([0x4B, 0x34], .bmi (.d8 0x34)),
      ([0x58, 0xB0, 0x84, 0xB6], .bmi (.d16 0x84B6)), ([0x4C, 0x2C], .bge (.d8 0x2C)),
      ([0x58, 0xC0, 0xC0, 0xF8], .bge (.d16 0xC0F8)), ([0x4D, 0xE8], .blt (.d8 0xE8)),
      ([0x58, 0xD0, 0x57, 0xB0], .blt (.d16 0x57B0)), ([0x4E, 0xA9], .bgt (.d8 0xA9)),
      ([0x58, 0xE0, 0xEE, 0x29], .bgt (.d16 0xEE29))] = true := by decide

theorem test_decode_ble_to_rts : decodesAll
    [([0x4F, 0x72], .ble (.d8 0x72)), ([0x58, 0xF0, 0x7F, 0x92], .ble (.d16 0x7F92)), ([0x59, 0x20], .jmpInd 2),
      ([0x5A, 0x53, 0xB3, 0xB1], .jmpAbs24 0x53B3B1), ([0x5B, 0x68], .jmpMemInd 0x68),
      ([0x55, 0xAB], .bsr (.d8 0xAB)), ([0x5C, 0x00, 0x40, 0x28], .bsr (.d16 0x4028)), ([0x5D, 0x20], .jsrInd 2),
      ([0x5E, 0xA2, 0x59, 0x2C], .jsrAbs24 0xA2592C), ([0x5F, 0x6F], .jsrMemInd 0x6F), ([0x54, 0x70], .rts)] = true := by decide

theorem test_decode_rte_to_stcb : decodesAll
    [([0x56, 0x70], .rte), ([0x01, 0x80], .sleep), ([0x07, 0xCE], .ldcBImm 0xCE), ([0x03, 0x0D], .ldcBReg 13),
      ([0x01, 0x40, 0x69, 0x70], .ldcWInd 7), ([0x01, 0x40, 0x6F, 0x20, 0xEA, 0x0B], .ldcWDisp16 0xEA0B 2),
      ([0x01, 0x40, 0x78, 0x20, 0x6B, 0x20, 0x00, 0xE1, 0x59, 0x4E], .ldcWDisp24 0xE1594E 2),
      ([0x01, 0x40, 0x6D, 0x40], .ldcWInc 4), ([0x01, 0x40, 0x6B, 0x00, 0x38, 0x37], .ldcWAbs16 0x3837),
      ([0x01, 0x40, 0x6B, 0x20, 0x00, 0x95, 0x46, 0x84], .ldcWAbs24 0x954684), ([0x02, 0x0F], .stcBReg 15)] = true := by decide

theorem test_decode_stcw_to_trapa : decodesAll
    [([0x01, 0x40, 0x69, 0xB0], .stcWInd 3), ([0x01, 0x40, 0x6F, 0xA0, 0x35, 0xBC], .stcWDisp16 0x35BC 2),
      ([0x01, 0x40, 0x78, 0x40, 0x6B, 0xA0, 0x00, 0x22, 0x72, 0x0D], .stcWDisp24 0x22720D 4),
      ([0x01, 0x40, 0x6D, 0xB0], .stcWDec 3), ([0x01, 0x40, 0x6B, 0x80, 0xD6, 0x4C], .stcWAbs16 0xD64C),
      ([0x01, 0x40, 0x6B, 0xA0, 0x00, 0xE5, 0x49, 0x83], .stcWAbs24 0xE54983), ([0x06, 0xDA], .andc 0xDA),
      ([0x04, 0x0B], .orc 0xB), ([0x05, 0xB7], .xorc 0xB7), ([0x00, 0x00], .nop), ([0x57, 0x10], .trapa 1)] = true := by decide

theorem test_decode_eepmovb_to_eepmovw : decodesAll
    [([0x7B, 0x5C, 0x59, 0x8F], .eepmovB), ([0x7B, 0xD4, 0x59, 0x8F], .eepmovW)] = true := by decide

/-- Words that match no row (R148; 95_test_vectors E2, E5), and a must-be-zero nibble that is not zero. -/
theorem test_decode_undefined :
    ([[0x01, 0x10, 0x00, 0x00], [0x6A, 0x40, 0x00, 0x00], [0x00, 0x01], [0x0A, 0x10], [0x10, 0x20], [0x54, 0x71],
      [0x57, 0x40], [0x7B, 0x5C, 0x59, 0x80]] : List (List Byte)).all (fun b => decide (decode b = .undefined)) = true := by
  decide

/-- The ignored bit of the address register nibble (R150): both words are MOV.L ER0,@(H'000004:24,ER1). -/
theorem test_decode_ignored_bit : decodesAll [([0x01, 0x00, 0x78, 0x10, 0x6B, 0xA0, 0x00, 0x00, 0x00, 0x04], .movLStDisp24 0 4 1),
    ([0x01, 0x00, 0x78, 0x90, 0x6B, 0xA0, 0x00, 0x00, 0x00, 0x04], .movLStDisp24 0 4 1)] = true := by decide

/-- The host's entry: MOV.L #H'01234567:32,ER0 as three words, the first in bits 15 to 0. -/
theorem test_decodeTableWord : decodeTableWord 48 0x456701237A00 = some (.movLImm 0x01234567 0) := by decide

/-- An instruction placed for the fetch is the one the step after reset runs. -/
theorem test_withFetchWord : has (step (State.reset.withFetchWord 16 0xF880)) [(0, 0x00000080)] 0x88 0x000002 [] = true := by
  decide

/-! ### Vectors of single instructions (spec/97_derived_vectors.md) -/

/-- T1: MOV.B #H'80:8,R0L. -/
theorem test_T1_mov_b : gives (start .advanced [0xF8, 0x80] 0x07 [(0, 0x11223344)] [])
    [(0, 0x11223380)] 0x09 0x001002 [] = true := by decide

/-- T3: MOV.W #H'8000:16,E3. -/
theorem test_T3_mov_w : gives (start .advanced [0x79, 0x0B, 0x80, 0x00] 0x00 [(3, 0x12345678)] [])
    [(3, 0x80005678)] 0x08 0x001004 [] = true := by decide

/-- T4: MOV.L #H'01234567:32,ER0. -/
theorem test_T4_mov_l : gives (start .advanced [0x7A, 0x00, 0x01, 0x23, 0x45, 0x67] 0x0F [(0, 0xFFFFFFFF)] [])
    [(0, 0x01234567)] 0x01 0x001006 [] = true := by decide

/-- T9: MOV.W @ER0,R1. -/
theorem test_T9_mov_w : gives (start .advanced [0x69, 0x01] 0x00 [(0, 0x00002001), (1, 0xFFFFFFFF)] [(0x002000,
    [0x12, 0x34, 0x56])]) [(0, 0x00002001), (1, 0xFFFF1234)] 0x00 0x001002 [] = true := by decide

/-- T12: MOV.L @(H'F00000:24,ER0),ER1. -/
theorem test_T12_mov_l : gives (start .advanced [0x01, 0x00, 0x78, 0x00, 0x6B, 0x21, 0x00, 0xF0, 0x00, 0x00] 0x08
    [(0, 0x00300000), (1, 0x00000000)] [(0x200000, [0x00, 0x00, 0x00, 0x00])]) [(0, 0x00300000),
    (1, 0x00000000)] 0x04 0x00100A [] = true := by decide

/-- T16: MOV.L @ER0+,ER0. -/
theorem test_T16_mov_l : isRefused (step (start .advanced [0x01, 0x00, 0x6D, 0x00] 0x00 [(0, 0x00002000)]
    [(0x002000, [0x01, 0x02, 0x03, 0x04])])) .registerOverlap = true := by decide

/-- T29: MOV.W R1,@-ER1. -/
theorem test_T29_mov_w : isRefused (step (start .advanced [0x6D, 0x91] 0x00 [(1, 0x00002000)]
    [])) .registerOverlap = true := by decide

/-- T32: PUSH.W R0. -/
theorem test_T32_push_w : gives (start .advanced [0x6D, 0xF0] 0x80 [(0, 0x1234ABCD), (7, 0x00FFFF00)] [])
    [(0, 0x1234ABCD), (7, 0x00FFFEFE)] 0x88 0x001002 [(0xFFFEFE, [0xAB, 0xCD])] = true := by decide

/-- T33: PUSH.L ER1. -/
theorem test_T33_push_l : gives (start .advanced [0x01, 0x00, 0x6D, 0xF1] 0x8B [(1, 0x00000000), (7, 0x00FFFF00)]
    []) [(1, 0x00000000), (7, 0x00FFFEFC)] 0x85 0x001004 [(0xFFFEFC, [0x00, 0x00, 0x00, 0x00])] = true := by decide

/-- T34: POP.W R2. -/
theorem test_T34_pop_w : gives (start .advanced [0x6D, 0x72] 0x00 [(2, 0xFFFFFFFF), (7, 0x00FFFEFE)] [(0xFFFEFE,
    [0x80, 0x01])]) [(2, 0xFFFF8001), (7, 0x00FFFF00)] 0x08 0x001002 [] = true := by decide

/-- T35: POP.L ER3. -/
theorem test_T35_pop_l : gives (start .advanced [0x01, 0x00, 0x6D, 0x73] 0x0A [(3, 0x00000000), (7, 0x00FFFEFC)]
    [(0xFFFEFC, [0x00, 0x00, 0x00, 0x00])]) [(3, 0x00000000), (7, 0x00FFFF00)] 0x04 0x001004 [] = true := by decide

/-- T38: ADD.B R0L,R1L. -/
theorem test_T38_add_b : gives (start .advanced [0x08, 0x89] 0x80 [(0, 0x00000001), (1, 0x0000007F)] [])
    [(0, 0x00000001), (1, 0x00000080)] 0xAA 0x001002 [] = true := by decide

/-- T41: ADD.W #H'0001:16,R0. -/
theorem test_T41_add_w : gives (start .advanced [0x79, 0x10, 0x00, 0x01] 0x00 [(0, 0x00000FFF)] [])
    [(0, 0x00001000)] 0x20 0x001004 [] = true := by decide

/-- T43: ADD.L #H'00000001:32,ER0. -/
theorem test_T43_add_l : gives (start .advanced [0x7A, 0x10, 0x00, 0x00, 0x00, 0x01] 0x00 [(0, 0x0FFFFFFF)] [])
    [(0, 0x10000000)] 0x20 0x001006 [] = true := by decide

/-- T46: SUB.B R0L,R1L. -/
theorem test_T46_sub_b : gives (start .advanced [0x18, 0x89] 0x00 [(0, 0x00000001), (1, 0x00000000)] [])
    [(0, 0x00000001), (1, 0x000000FF)] 0x29 0x001002 [] = true := by decide

/-- T48: SUB.W #H'1000:16,R1. -/
theorem test_T48_sub_w : gives (start .advanced [0x79, 0x31, 0x10, 0x00] 0x09 [(1, 0x00001000)] [])
    [(1, 0x00000000)] 0x04 0x001004 [] = true := by decide

/-- T50: SUB.L #H'00000001:32,ER2. -/
theorem test_T50_sub_l : gives (start .advanced [0x7A, 0x32, 0x00, 0x00, 0x00, 0x01] 0x00 [(2, 0x80000000)] [])
    [(2, 0x7FFFFFFF)] 0x22 0x001006 [] = true := by decide

/-- T52: ADDX.B #H'00:8,R0L. -/
theorem test_T52_addx_b : gives (start .advanced [0x98, 0x00] 0x00 [(0, 0x00000000)] [])
    [(0, 0x00000000)] 0x00 0x001002 [] = true := by decide

/-- T56: SUBX.B #H'00:8,R0L. -/
theorem test_T56_subx_b : gives (start .advanced [0xB8, 0x00] 0x05 [(0, 0x00000000)] [])
    [(0, 0x000000FF)] 0x29 0x001002 [] = true := by decide

/-- T59: INC.B R0L. -/
theorem test_T59_inc_b : gives (start .advanced [0x0A, 0x08] 0x21 [(0, 0x0000007F)] [])
    [(0, 0x00000080)] 0x2B 0x001002 [] = true := by decide

/-- T61: INC.W #2,R1. -/
theorem test_T61_inc_w : gives (start .advanced [0x0B, 0xD1] 0x00 [(1, 0x1234FFFF)] [])
    [(1, 0x12340001)] 0x00 0x001002 [] = true := by decide

/-- T63: INC.L #2,ER2. -/
theorem test_T63_inc_l : gives (start .advanced [0x0B, 0xF2] 0x01 [(2, 0x7FFFFFFE)] [])
    [(2, 0x80000000)] 0x0B 0x001002 [] = true := by decide

/-- T65: DEC.B R0L. -/
theorem test_T65_dec_b : gives (start .advanced [0x1A, 0x08] 0x00 [(0, 0x00000080)] [])
    [(0, 0x0000007F)] 0x02 0x001002 [] = true := by decide

/-- T66: DEC.W #1,R0. -/
theorem test_T66_dec_w : gives (start .advanced [0x1B, 0x50] 0x04 [(0, 0x00000000)] [])
    [(0, 0x0000FFFF)] 0x08 0x001002 [] = true := by decide

/-- T68: DEC.L #2,ER0. -/
theorem test_T68_dec_l : gives (start .advanced [0x1B, 0xF0] 0x00 [(0, 0x00000001)] [])
    [(0, 0xFFFFFFFF)] 0x08 0x001002 [] = true := by decide

/-- T70: ADDS #4,ER0. -/
theorem test_T70_adds : gives (start .advanced [0x0B, 0x90] 0xFF [(0, 0xFFFFFFFE)] [])
    [(0, 0x00000002)] 0xFF 0x001002 [] = true := by decide

/-- T73: SUBS #1,ER0. -/
theorem test_T73_subs : gives (start .advanced [0x1B, 0x00] 0x00 [(0, 0x00000000)] [])
    [(0, 0xFFFFFFFF)] 0x00 0x001002 [] = true := by decide

/-- T85: MULXU.B R1L,R0. -/
theorem test_T85_mulxu_b : gives (start .advanced [0x50, 0x90] 0xAF [(0, 0x1234ABFF), (1, 0x000000FF)] [])
    [(0, 0x1234FE01), (1, 0x000000FF)] 0xAF 0x001002 [] = true := by decide

/-- T87: MULXU.W R1,ER0. -/
theorem test_T87_mulxu_w : gives (start .advanced [0x52, 0x10] 0x00 [(0, 0xABCDFFFF), (1, 0x0000FFFF)] [])
    [(0, 0xFFFE0001), (1, 0x0000FFFF)] 0x00 0x001002 [] = true := by decide

/-- T89: MULXS.B R1L,R0. -/
theorem test_T89_mulxs_b : gives (start .advanced [0x01, 0xC0, 0x50, 0x90] 0x00 [(0, 0x000000FF), (1, 0x000000FF)]
    []) [(0, 0x00000001), (1, 0x000000FF)] 0x00 0x001004 [] = true := by decide

/-- T93: MULXS.W E0,ER0. -/
theorem test_T93_mulxs_w : gives (start .advanced [0x01, 0xC0, 0x52, 0x80] 0x00 [(0, 0xFFFFFFFF)] [])
    [(0, 0x00000001)] 0x00 0x001004 [] = true := by decide

/-- T96: DIVXU.B R1L,R0. -/
theorem test_T96_divxu_b : gives (start .advanced [0x51, 0x90] 0x00 [(0, 0x00000101), (1, 0x00000010)] [])
    [(0, 0x00000110), (1, 0x00000010)] 0x00 0x001002 [] = true := by decide

/-- T99: DIVXU.W R1,ER0. -/
theorem test_T99_divxu_w : gives (start .advanced [0x53, 0x10] 0x00 [(0, 0x00010001), (1, 0x00000100)] [])
    [(0, 0x00010100), (1, 0x00000100)] 0x00 0x001002 [] = true := by decide

/-- T104: DIVXS.B R1L,R0. -/
theorem test_T104_divxs_b : gives (start .advanced [0x01, 0xD0, 0x51, 0x90] 0x00 [(0, 0x0000FFF9), (1, 0x00000002)]
    []) [(0, 0x0000FFFD), (1, 0x00000002)] 0x08 0x001004 [] = true := by decide

/-- T108: DIVXS.W R1,ER0. -/
theorem test_T108_divxs_w : gives (start .advanced [0x01, 0xD0, 0x53, 0x10] 0x00 [(0, 0xFFFFFFF9), (1, 0x00000002)]
    []) [(0, 0xFFFFFFFD), (1, 0x00000002)] 0x08 0x001004 [] = true := by decide

/-- T113: CMP.B #H'10:8,R0L. -/
theorem test_T113_cmp_b : gives (start .advanced [0xA8, 0x10] 0x00 [(0, 0x00000010)] [])
    [(0, 0x00000010)] 0x04 0x001002 [] = true := by decide

/-- T115: CMP.W #H'8000:16,R0. -/
theorem test_T115_cmp_w : gives (start .advanced [0x79, 0x20, 0x80, 0x00] 0x00 [(0, 0x00007FFF)] [])
    [(0, 0x00007FFF)] 0x0B 0x001004 [] = true := by decide

/-- T117: CMP.L #H'00000000:32,ER0. -/
theorem test_T117_cmp_l : gives (start .advanced [0x7A, 0x20, 0x00, 0x00, 0x00, 0x00] 0x0B [(0, 0x00000000)] [])
    [(0, 0x00000000)] 0x04 0x001006 [] = true := by decide

/-- T119: NEG.B R0L. -/
theorem test_T119_neg_b : gives (start .advanced [0x17, 0x88] 0x00 [(0, 0x00000080)] [])
    [(0, 0x00000080)] 0x0B 0x001002 [] = true := by decide

/-- T122: NEG.W R0. -/
theorem test_T122_neg_w : gives (start .advanced [0x17, 0x90] 0x00 [(0, 0x00008000)] [])
    [(0, 0x00008000)] 0x0B 0x001002 [] = true := by decide

/-- T124: NEG.L ER0. -/
theorem test_T124_neg_l : gives (start .advanced [0x17, 0xB0] 0x00 [(0, 0x80000000)] [])
    [(0, 0x80000000)] 0x0B 0x001002 [] = true := by decide

/-- T126: EXTU.W R0. -/
theorem test_T126_extu_w : gives (start .advanced [0x17, 0x50] 0x0B [(0, 0x1234FF80)] [])
    [(0, 0x12340080)] 0x01 0x001002 [] = true := by decide

/-- T128: EXTU.L ER0. -/
theorem test_T128_extu_l : gives (start .advanced [0x17, 0x70] 0x08 [(0, 0xFFFF8000)] [])
    [(0, 0x00008000)] 0x00 0x001002 [] = true := by decide

/-- T129: EXTS.W R0. -/
theorem test_T129_exts_w : gives (start .advanced [0x17, 0xD0] 0x00 [(0, 0x12340080)] [])
    [(0, 0x1234FF80)] 0x08 0x001002 [] = true := by decide

/-- T132: EXTS.L ER0. -/
theorem test_T132_exts_l : gives (start .advanced [0x17, 0xF0] 0x00 [(0, 0x00008000)] [])
    [(0, 0xFFFF8000)] 0x08 0x001002 [] = true := by decide

/-- T134: AND.B #H'0F:8,R0L. -/
theorem test_T134_and_b : gives (start .advanced [0xE8, 0x0F] 0x2B [(0, 0x123456F0)] [])
    [(0, 0x12345600)] 0x25 0x001002 [] = true := by decide

/-- T136: AND.W #H'FF00:16,R0. -/
theorem test_T136_and_w : gives (start .advanced [0x79, 0x60, 0xFF, 0x00] 0x00 [(0, 0x12348765)] [])
    [(0, 0x12348700)] 0x08 0x001004 [] = true := by decide

/-- T138: AND.L #H'00FFFFFF:32,ER0. -/
theorem test_T138_and_l : gives (start .advanced [0x7A, 0x60, 0x00, 0xFF, 0xFF, 0xFF] 0x08 [(0, 0xAB123456)] [])
    [(0, 0x00123456)] 0x00 0x001006 [] = true := by decide

/-- T140: OR.B #H'80:8,R0L. -/
theorem test_T140_or_b : gives (start .advanced [0xC8, 0x80] 0x02 [(0, 0x00000001)] [])
    [(0, 0x00000081)] 0x08 0x001002 [] = true := by decide

/-- T142: OR.W #H'0001:16,E0. -/
theorem test_T142_or_w : gives (start .advanced [0x79, 0x48, 0x00, 0x01] 0x00 [(0, 0x0000FFFF)] [])
    [(0, 0x0001FFFF)] 0x00 0x001004 [] = true := by decide

/-- T144: OR.L #H'80000000:32,ER0. -/
theorem test_T144_or_l : gives (start .advanced [0x7A, 0x40, 0x80, 0x00, 0x00, 0x00] 0x04 [(0, 0x00000000)] [])
    [(0, 0x80000000)] 0x08 0x001006 [] = true := by decide

/-- T146: XOR.B #H'FF:8,R0L. -/
theorem test_T146_xor_b : gives (start .advanced [0xD8, 0xFF] 0x00 [(0, 0x00000055)] [])
    [(0, 0x000000AA)] 0x08 0x001002 [] = true := by decide

/-- T148: XOR.W #H'8000:16,R0. -/
theorem test_T148_xor_w : gives (start .advanced [0x79, 0x50, 0x80, 0x00] 0x08 [(0, 0x00008000)] [])
    [(0, 0x00000000)] 0x04 0x001004 [] = true := by decide

/-- T150: XOR.L #H'FFFFFFFF:32,ER0. -/
theorem test_T150_xor_l : gives (start .advanced [0x7A, 0x50, 0xFF, 0xFF, 0xFF, 0xFF] 0x00 [(0, 0x0F0F0F0F)] [])
    [(0, 0xF0F0F0F0)] 0x08 0x001006 [] = true := by decide

/-- T152: NOT.B R0L. -/
theorem test_T152_not_b : gives (start .advanced [0x17, 0x08] 0x09 [(0, 0x123456FF)] [])
    [(0, 0x12345600)] 0x05 0x001002 [] = true := by decide

/-- T154: NOT.W R0. -/
theorem test_T154_not_w : gives (start .advanced [0x17, 0x10] 0x00 [(0, 0x12340000)] [])
    [(0, 0x1234FFFF)] 0x08 0x001002 [] = true := by decide

/-- T156: NOT.L ER0. -/
theorem test_T156_not_l : gives (start .advanced [0x17, 0x30] 0x03 [(0, 0x00000000)] [])
    [(0, 0xFFFFFFFF)] 0x09 0x001002 [] = true := by decide

/-- T158: SHAL.B R0L. -/
theorem test_T158_shal_b : gives (start .advanced [0x10, 0x88] 0x20 [(0, 0x00000040)] [])
    [(0, 0x00000080)] 0x2A 0x001002 [] = true := by decide

/-- T161: SHAL.W R0. -/
theorem test_T161_shal_w : gives (start .advanced [0x10, 0x90] 0x00 [(0, 0x12344000)] [])
    [(0, 0x12348000)] 0x0A 0x001002 [] = true := by decide

/-- T162: SHAL.L ER0. -/
theorem test_T162_shal_l : gives (start .advanced [0x10, 0xB0] 0x02 [(0, 0xC0000001)] [])
    [(0, 0x80000002)] 0x09 0x001002 [] = true := by decide

/-- T163: SHLL.B R0L. -/
theorem test_T163_shll_b : gives (start .advanced [0x10, 0x08] 0x02 [(0, 0x00000080)] [])
    [(0, 0x00000000)] 0x05 0x001002 [] = true := by decide

/-- T165: SHLL.W E0. -/
theorem test_T165_shll_w : gives (start .advanced [0x10, 0x18] 0x00 [(0, 0x8001FFFF)] [])
    [(0, 0x0002FFFF)] 0x01 0x001002 [] = true := by decide

/-- T166: SHLL.L ER0. -/
theorem test_T166_shll_l : gives (start .advanced [0x10, 0x30] 0x01 [(0, 0x08000000)] [])
    [(0, 0x10000000)] 0x00 0x001002 [] = true := by decide

/-- T167: SHAR.B R0L. -/
theorem test_T167_shar_b : gives (start .advanced [0x11, 0x88] 0x02 [(0, 0x00000081)] [])
    [(0, 0x000000C0)] 0x09 0x001002 [] = true := by decide

/-- T169: SHAR.W R0. -/
theorem test_T169_shar_w : gives (start .advanced [0x11, 0x90] 0x00 [(0, 0x00008000)] [])
    [(0, 0x0000C000)] 0x08 0x001002 [] = true := by decide

/-- T170: SHAR.L ER0. -/
theorem test_T170_shar_l : gives (start .advanced [0x11, 0xB0] 0x00 [(0, 0xFFFFFFFF)] [])
    [(0, 0xFFFFFFFF)] 0x09 0x001002 [] = true := by decide

/-- T172: SHLR.B R0L. -/
theorem test_T172_shlr_b : gives (start .advanced [0x11, 0x08] 0x0A [(0, 0x00000081)] [])
    [(0, 0x00000040)] 0x01 0x001002 [] = true := by decide

/-- T173: SHLR.W R0. -/
theorem test_T173_shlr_w : gives (start .advanced [0x11, 0x10] 0x00 [(0, 0x0000FFFF)] [])
    [(0, 0x00007FFF)] 0x01 0x001002 [] = true := by decide

/-- T174: SHLR.L ER0. -/
theorem test_T174_shlr_l : gives (start .advanced [0x11, 0x30] 0x00 [(0, 0x00000001)] [])
    [(0, 0x00000000)] 0x05 0x001002 [] = true := by decide

/-- T176: ROTL.B R0L. -/
theorem test_T176_rotl_b : gives (start .advanced [0x12, 0x88] 0x00 [(0, 0x00000081)] [])
    [(0, 0x00000003)] 0x01 0x001002 [] = true := by decide

/-- T178: ROTL.W R0. -/
theorem test_T178_rotl_w : gives (start .advanced [0x12, 0x90] 0x01 [(0, 0x00004000)] [])
    [(0, 0x00008000)] 0x08 0x001002 [] = true := by decide

/-- T179: ROTL.L ER0. -/
theorem test_T179_rotl_l : gives (start .advanced [0x12, 0xB0] 0x00 [(0, 0x80000000)] [])
    [(0, 0x00000001)] 0x01 0x001002 [] = true := by decide

/-- T180: ROTR.B R0L. -/
theorem test_T180_rotr_b : gives (start .advanced [0x13, 0x88] 0x00 [(0, 0x00000001)] [])
    [(0, 0x00000080)] 0x09 0x001002 [] = true := by decide

/-- T181: ROTR.W E0. -/
theorem test_T181_rotr_w : gives (start .advanced [0x13, 0x98] 0x01 [(0, 0x00020000)] [])
    [(0, 0x00010000)] 0x00 0x001002 [] = true := by decide

/-- T182: ROTR.L ER0. -/
theorem test_T182_rotr_l : gives (start .advanced [0x13, 0xB0] 0x00 [(0, 0x00000001)] [])
    [(0, 0x80000000)] 0x09 0x001002 [] = true := by decide

/-- T183: ROTXL.B R0L. -/
theorem test_T183_rotxl_b : gives (start .advanced [0x12, 0x08] 0x00 [(0, 0x00000080)] [])
    [(0, 0x00000000)] 0x05 0x001002 [] = true := by decide

/-- T185: ROTXL.W R0. -/
theorem test_T185_rotxl_w : gives (start .advanced [0x12, 0x10] 0x00 [(0, 0x0000FFFF)] [])
    [(0, 0x0000FFFE)] 0x09 0x001002 [] = true := by decide

/-- T186: ROTXL.L ER0. -/
theorem test_T186_rotxl_l : gives (start .advanced [0x12, 0x30] 0x01 [(0, 0x7FFFFFFF)] [])
    [(0, 0xFFFFFFFF)] 0x08 0x001002 [] = true := by decide

/-- T187: ROTXR.B R0L. -/
theorem test_T187_rotxr_b : gives (start .advanced [0x13, 0x08] 0x00 [(0, 0x00000001)] [])
    [(0, 0x00000000)] 0x05 0x001002 [] = true := by decide

/-- T189: ROTXR.W R0. -/
theorem test_T189_rotxr_w : gives (start .advanced [0x13, 0x10] 0x01 [(0, 0x00000001)] [])
    [(0, 0x00008000)] 0x09 0x001002 [] = true := by decide

/-- T190: ROTXR.L ER0. -/
theorem test_T190_rotxr_l : gives (start .advanced [0x13, 0x30] 0x01 [(0, 0xFFFFFFFE)] [])
    [(0, 0xFFFFFFFF)] 0x08 0x001002 [] = true := by decide

/-- T191: BSET #7,R0L. -/
theorem test_T191_bset : gives (start .advanced [0x70, 0x78] 0xFF [(0, 0x00000000)] [])
    [(0, 0x00000080)] 0xFF 0x001002 [] = true := by decide

/-- T197: BCLR #7,R0L. -/
theorem test_T197_bclr : gives (start .advanced [0x72, 0x78] 0x00 [(0, 0x000000FF)] [])
    [(0, 0x0000007F)] 0x00 0x001002 [] = true := by decide

/-- T203: BNOT ,R0H. -/
theorem test_T203_bnot : gives (start .advanced [0x71, 0x30] 0x00 [(0, 0x00000800)] [])
    [(0, 0x00000000)] 0x00 0x001002 [] = true := by decide

/-- T209: BTST #0,R0L. -/
theorem test_T209_btst : gives (start .advanced [0x73, 0x08] 0x04 [(0, 0x00000001)] [])
    [(0, 0x00000001)] 0x00 0x001002 [] = true := by decide

/-- T216: BLD #4,R0L. -/
theorem test_T216_bld : gives (start .advanced [0x77, 0x48] 0x00 [(0, 0x00000010)] [])
    [(0, 0x00000010)] 0x01 0x001002 [] = true := by decide

/-- T219: BILD #4,R0L. -/
theorem test_T219_bild : gives (start .advanced [0x77, 0xC8] 0x01 [(0, 0x00000010)] [])
    [(0, 0x00000010)] 0x00 0x001002 [] = true := by decide

/-- T222: BST #6,R0L. -/
theorem test_T222_bst : gives (start .advanced [0x67, 0x68] 0x01 [(0, 0x00000000)] [])
    [(0, 0x00000040)] 0x01 0x001002 [] = true := by decide

/-- T226: BIST #6,R0L. -/
theorem test_T226_bist : gives (start .advanced [0x67, 0xE8] 0x00 [(0, 0x00000000)] [])
    [(0, 0x00000040)] 0x00 0x001002 [] = true := by decide

/-- T230: BAND #0,R0L. -/
theorem test_T230_band : gives (start .advanced [0x76, 0x08] 0x01 [(0, 0x00000001)] [])
    [(0, 0x00000001)] 0x01 0x001002 [] = true := by decide

/-- T234: BIAND #0,R0L. -/
theorem test_T234_biand : gives (start .advanced [0x76, 0x88] 0x01 [(0, 0x00000000)] [])
    [(0, 0x00000000)] 0x01 0x001002 [] = true := by decide

/-- T238: BOR #0,R0L. -/
theorem test_T238_bor : gives (start .advanced [0x74, 0x08] 0x00 [(0, 0x00000001)] [])
    [(0, 0x00000001)] 0x01 0x001002 [] = true := by decide

/-- T242: BIOR #0,R0L. -/
theorem test_T242_bior : gives (start .advanced [0x74, 0x88] 0x00 [(0, 0x00000001)] [])
    [(0, 0x00000001)] 0x00 0x001002 [] = true := by decide

/-- T246: BXOR #0,R0L. -/
theorem test_T246_bxor : gives (start .advanced [0x75, 0x08] 0x01 [(0, 0x00000001)] [])
    [(0, 0x00000001)] 0x00 0x001002 [] = true := by decide

/-- T250: BIXOR #0,R0L. -/
theorem test_T250_bixor : gives (start .advanced [0x75, 0x88] 0x01 [(0, 0x00000001)] [])
    [(0, 0x00000001)] 0x01 0x001002 [] = true := by decide

/-- T254: BRA H'1010:8. -/
theorem test_T254_bra : gives (start .advanced [0x40, 0x0E] 0x0F [] []) [] 0x0F 0x001010 [] = true := by decide

/-- T259: BRN H'1010:8. -/
theorem test_T259_brn : gives (start .advanced [0x41, 0x0E] 0xFF [] []) [] 0xFF 0x001002 [] = true := by decide

/-- T261: BEQ H'1010:8. -/
theorem test_T261_beq : gives (start .advanced [0x47, 0x0E] 0x04 [] []) [] 0x04 0x001010 [] = true := by decide

/-- T263: BNE H'1010:16. -/
theorem test_T263_bne : gives (start .advanced [0x58, 0x60, 0x00, 0x0C] 0x04 [] []) [] 0x04 0x001004
    [] = true := by decide

/-- T269: JMP @ER0. -/
theorem test_T269_jmp : isRefused (step (start .advanced [0x59, 0x00] 0x00 [(0, 0x00002001)]
    [])) .oddTarget = true := by decide

/-- T270: JMP @ER0. -/
theorem test_T270_jmp : gives (start .advanced [0x59, 0x00] 0xAA [(0, 0x5A002000)] [])
    [(0, 0x5A002000)] 0xAA 0x002000 [] = true := by decide

/-- T273: JMP @@H'F8:8. -/
theorem test_T273_jmp : gives (start .advanced [0x5B, 0xF8] 0x00 [] [(0x0000F8, [0x5A, 0x01, 0x23, 0x44])])
    [] 0x00 0x012344 [] = true := by decide

/-- T274: BSR H'1010:8. -/
theorem test_T274_bsr : gives (start .advanced [0x55, 0x0E] 0x00 [(7, 0x00FFFF00)] [])
    [(7, 0x00FFFEFC)] 0x00 0x001010 [] = true := by decide

/-- T275: BSR H'1010:8. -/
theorem test_T275_bsr : gives (start .normal [0x55, 0x0E] 0x00 [(7, 0x0000FF00)] []) [(7, 0x0000FEFE)] 0x00 0x001010
    [(0x00FEFE, [0x10, 0x02])] = true := by decide

/-- T277: JSR @ER0. -/
theorem test_T277_jsr : gives (start .advanced [0x5D, 0x00] 0x00 [(0, 0x00002000), (7, 0x00FFFF00)] [])
    [(0, 0x00002000), (7, 0x00FFFEFC)] 0x00 0x002000 [] = true := by decide

/-- T281: JSR @ER7. -/
theorem test_T281_jsr : isRefused (step (start .advanced [0x5D, 0x70] 0x00 [(7, 0x00FFFF00)]
    [])) .registerOverlap = true := by decide

/-- T282: RTS. -/
theorem test_T282_rts : gives (start .advanced [0x54, 0x70] 0x0F [(7, 0x00FFFEFC)] [(0xFFFEFC,
    [0xA5, 0x00, 0x10, 0x02])]) [(7, 0x00FFFF00)] 0x0F 0x001002 [] = true := by decide

/-- T284: RTS. -/
theorem test_T284_rts : isRefused (step (start .advanced [0x54, 0x70] 0x00 [(7, 0x00FFFEFC)] [(0xFFFEFC,
    [0x00, 0x00, 0x10, 0x03])])) .oddTarget = true := by decide

/-- T285: LDC.B #H'80:8,CCR. -/
theorem test_T285_ldc_b : gives (start .advanced [0x07, 0x80] 0x2F [] []) [] 0x80 0x001002 [] = true := by decide

/-- T287: LDC.W @ER0,CCR. -/
theorem test_T287_ldc_w : gives (start .advanced [0x01, 0x40, 0x69, 0x00] 0x00 [(0, 0x00002000)] [(0x002000,
    [0x85, 0x33])]) [(0, 0x00002000)] 0x85 0x001004 [] = true := by decide

/-- T293: STC.B CCR,R0H. -/
theorem test_T293_stc_b : gives (start .advanced [0x02, 0x00] 0xA5 [(0, 0x12345678)] [])
    [(0, 0x1234A578)] 0xA5 0x001002 [] = true := by decide

/-- T294: STC.W CCR,@ER0. -/
theorem test_T294_stc_w : gives (start .advanced [0x01, 0x40, 0x69, 0x80] 0x85 [(0, 0x00002000)] [])
    [(0, 0x00002000)] 0x85 0x001004 [] = true := by decide

/-- T300: ANDC #H'7F:8,CCR. -/
theorem test_T300_andc : gives (start .advanced [0x06, 0x7F] 0xFF [] []) [] 0x7F 0x001002 [] = true := by decide

/-- T302: ORC #H'80:8,CCR. -/
theorem test_T302_orc : gives (start .advanced [0x04, 0x80] 0x05 [] []) [] 0x85 0x001002 [] = true := by decide

/-- T304: XORC #H'FF:8,CCR. -/
theorem test_T304_xorc : gives (start .advanced [0x05, 0xFF] 0xA5 [] []) [] 0x5A 0x001002 [] = true := by decide

/-- T306: NOP. -/
theorem test_T306_nop : gives (start .advanced [0x00, 0x00] 0x5A [(0, 0x12345678)] [])
    [(0, 0x12345678)] 0x5A 0x001002 [] = true := by decide

/-- T307: SLEEP. -/
theorem test_T307_sleep : gives (start .advanced [0x01, 0x80] 0x80 [] []) [] 0x80 0x001002 [] = true := by decide

/-- T308: TRAPA #0. -/
theorem test_T308_trapa : gives (start .advanced [0x57, 0x00] 0x05 [(7, 0x00FFFF00)] [(0x000010,
    [0x00, 0x00, 0x30, 0x00])]) [(7, 0x00FFFEFC)] 0x85 0x003000 [(0xFFFEFC,
    [0x05, 0x00, 0x10, 0x02])] = true := by decide

/-- T309: TRAPA . -/
theorem test_T309_trapa : gives (start .advanced [0x57, 0x30] 0x80 [(7, 0x00FFFF00)] [(0x00001C,
    [0xEE, 0x00, 0x30, 0x06])]) [(7, 0x00FFFEFC)] 0x80 0x003006 [(0xFFFEFC,
    [0x80, 0x00, 0x10, 0x02])] = true := by decide

/-- T312: RTE. -/
theorem test_T312_rte : gives (start .advanced [0x56, 0x70] 0x80 [(7, 0x00FFFEFC)] [(0xFFFEFC,
    [0x05, 0x00, 0x10, 0x02])]) [(7, 0x00FFFF00)] 0x05 0x001002 [] = true := by decide

/-- T313: RTE. -/
theorem test_T313_rte : gives (start .normal [0x56, 0x70] 0x80 [(7, 0x0000FEFC)] [(0x00FEFC,
    [0x0A, 0x77, 0x10, 0x02])]) [(7, 0x0000FF00)] 0x0A 0x001002 [] = true := by decide

/-- T314: EEPMOV.B. -/
theorem test_T314_eepmov_b : gives (start .advanced [0x7B, 0x5C, 0x59, 0x8F] 0xFF [(4, 0x00000003), (5, 0x00002000),
    (6, 0x00003000)] [(0x002000, [0x11, 0x22, 0x33, 0x44])]) [(4, 0x00000000), (5, 0x00002003),
    (6, 0x00003003)] 0xFF 0x001004 [(0x003000, [0x11, 0x22, 0x33])] = true := by decide

/-- T316: EEPMOV.W. -/
theorem test_T316_eepmov_w : gives (start .advanced [0x7B, 0xD4, 0x59, 0x8F] 0x00 [(4, 0x12340004), (5, 0x00002000),
    (6, 0x00003000)] [(0x002000, [0xDE, 0xAD, 0xBE, 0xEF])]) [(4, 0x12340000), (5, 0x00002004),
    (6, 0x00003004)] 0x00 0x001004 [(0x003000, [0xDE, 0xAD, 0xBE, 0xEF])] = true := by decide

/-- T317: EEPMOV.B. -/
theorem test_T317_eepmov_b : gives (start .advanced [0x7B, 0x5C, 0x59, 0x8F] 0x00 [(4, 0x00000004), (5, 0x00002000),
    (6, 0x00002001)] [(0x002000, [0xAB, 0x01, 0x02, 0x03, 0x04])]) [(4, 0x00000000), (5, 0x00002004),
    (6, 0x00002005)] 0x00 0x001004 [(0x002001, [0xAB, 0xAB, 0xAB, 0xAB])] = true := by decide

/-- T318: EEPMOV.B. -/
theorem test_T318_eepmov_b : gives (start .normal [0x7B, 0x5C, 0x59, 0x8F] 0x00 [(4, 0x00000002), (5, 0x0000FFFF),
    (6, 0x00008000)] [(0x000000, [0x88]), (0x00FFFF, [0x77])]) [(4, 0x00000000), (5, 0x00010001),
    (6, 0x00008002)] 0x00 0x001004 [(0x008000, [0x77, 0x88])] = true := by decide

/-- T78, second instruction: DAA after 08 + 08 = H'10 with H = 1. -/
theorem test_T78_daa : givesRegisters (start .advanced [0x0F, 0x08] 0x20 [(0, 0x10)] []) [(0, 0x16)] 0x001002 = true := by
  decide

/-- T82, second instruction: DAS after 12 - 30 = H'E2 with C = 1. -/
theorem test_T82_das : givesRegisters (start .advanced [0x1F, 0x08] 0x09 [(0, 0xE2)] []) [(0, 0x82)] 0x001002 = true := by
  decide

/-- T307: the CPU sleeps after SLEEP. -/
theorem test_T307_sleeping : (match step (start .advanced [0x01, 0x80] 0x80 [] []) with
    | .next t => t.sleeping
    | _ => false) = true := by decide

/-! ### The branch conditions for the sixteen values of N Z V C (spec/95_test_vectors.md 2.1) -/

theorem test_bra_condition : ((List.range 16).filter (taken (.bra (.d8 0x10)))) =
    [0, 1, 2, 3, 4, 5, 6, 7, 8, 9, 10, 11, 12, 13, 14, 15] := by decide

theorem test_brn_condition : ((List.range 16).filter (taken (.brn (.d8 0x10)))) =
    [] := by decide

theorem test_bhi_condition : ((List.range 16).filter (taken (.bhi (.d8 0x10)))) =
    [0, 2, 8, 10] := by decide

theorem test_bls_condition : ((List.range 16).filter (taken (.bls (.d8 0x10)))) =
    [1, 3, 4, 5, 6, 7, 9, 11, 12, 13, 14, 15] := by decide

theorem test_bcc_condition : ((List.range 16).filter (taken (.bcc (.d8 0x10)))) =
    [0, 2, 4, 6, 8, 10, 12, 14] := by decide

theorem test_bcs_condition : ((List.range 16).filter (taken (.bcs (.d8 0x10)))) =
    [1, 3, 5, 7, 9, 11, 13, 15] := by decide

theorem test_bne_condition : ((List.range 16).filter (taken (.bne (.d8 0x10)))) =
    [0, 1, 2, 3, 8, 9, 10, 11] := by decide

theorem test_beq_condition : ((List.range 16).filter (taken (.beq (.d8 0x10)))) =
    [4, 5, 6, 7, 12, 13, 14, 15] := by decide

theorem test_bvc_condition : ((List.range 16).filter (taken (.bvc (.d8 0x10)))) =
    [0, 1, 4, 5, 8, 9, 12, 13] := by decide

theorem test_bvs_condition : ((List.range 16).filter (taken (.bvs (.d8 0x10)))) =
    [2, 3, 6, 7, 10, 11, 14, 15] := by decide

theorem test_bpl_condition : ((List.range 16).filter (taken (.bpl (.d8 0x10)))) =
    [0, 1, 2, 3, 4, 5, 6, 7] := by decide

theorem test_bmi_condition : ((List.range 16).filter (taken (.bmi (.d8 0x10)))) =
    [8, 9, 10, 11, 12, 13, 14, 15] := by decide

theorem test_bge_condition : ((List.range 16).filter (taken (.bge (.d8 0x10)))) =
    [0, 1, 4, 5, 10, 11, 14, 15] := by decide

theorem test_blt_condition : ((List.range 16).filter (taken (.blt (.d8 0x10)))) =
    [2, 3, 6, 7, 8, 9, 12, 13] := by decide

theorem test_bgt_condition : ((List.range 16).filter (taken (.bgt (.d8 0x10)))) =
    [0, 1, 10, 11] := by decide

theorem test_ble_condition : ((List.range 16).filter (taken (.ble (.d8 0x10)))) =
    [2, 3, 4, 5, 6, 7, 8, 9, 12, 13, 14, 15] := by decide

/-! ### Interrupts (spec/95_test_vectors.md 2.2) -/

/-- The state before I1 to I5, I7, I9: a NOP at PC, ER7 = H'00FFFF00, requests at the next check, a vector entry. -/
def beforeCheck (ccr : Byte) (entry : Addr × List Byte) (p : List Request) : State :=
  (start .advanced [0x00, 0x00] ccr [(7, 0x00FFFF00)] [entry]).setIrq [p]

/-- I1: a maskable request with I = 0. -/
theorem test_I1 : gives (beforeCheck 0x00 (0x000030, [0x00, 0x00, 0x20, 0x00]) [⟨12, false⟩]) [(7, 0x00FFFEFC)] 0x80
    0x002000 [(0xFFFEFC, [0x00, 0x00, 0x10, 0x00])] = true := by decide

/-- I2: with I = 1 the request is held and the NOP runs. -/
theorem test_I2 : gives (beforeCheck 0x80 (0x000030, [0x00, 0x00, 0x20, 0x00]) [⟨12, false⟩]) [(7, 0x00FFFF00)] 0x80
    0x001002 [] = true := by decide

/-- I3: a non-maskable request with I = 1. -/
theorem test_I3 : gives (beforeCheck 0x80 (0x000030, [0x00, 0x00, 0x20, 0x00]) [⟨12, true⟩]) [(7, 0x00FFFEFC)] 0x80
    0x002000 [(0xFFFEFC, [0x80, 0x00, 0x10, 0x00])] = true := by decide

/-- I4: UI is plain storage. -/
theorem test_I4 : gives (beforeCheck 0x40 (0x000030, [0x00, 0x00, 0x20, 0x00]) [⟨12, false⟩]) [(7, 0x00FFFEFC)] 0xC0
    0x002000 [(0xFFFEFC, [0x40, 0x00, 0x10, 0x00])] = true := by decide

/-- I5: only I changes; the first byte of the entry is ignored. -/
theorem test_I5 : gives (beforeCheck 0x2F (0x000030, [0xA5, 0x00, 0x20, 0x00]) [⟨12, false⟩]) [(7, 0x00FFFEFC)] 0xAF
    0x002000 [(0xFFFEFC, [0x2F, 0x00, 0x10, 0x00])] = true := by decide

/-- I6: normal mode (the frame holds a free byte). -/
theorem test_I6 : givesRegisters ((start .normal [0x00, 0x00] 0x2A [(7, 0x0000FF00)] [(0x000018, [0x20, 0x00])]).setIrq
    [[⟨12, false⟩]]) [(7, 0x0000FEFC)] 0x002000 = true := by decide

/-- I7: the non-maskable request of two is taken. -/
theorem test_I7 : gives (beforeCheck 0x00 (0x00001C, [0x00, 0x00, 0x30, 0x00]) [⟨13, false⟩, ⟨7, true⟩])
    [(7, 0x00FFFEFC)] 0x80 0x003000 [(0xFFFEFC, [0x00, 0x00, 0x10, 0x00])] = true := by decide

/-- I9: an odd handler address. -/
theorem test_I9 : isRefused (step (beforeCheck 0x00 (0x000030, [0x00, 0x00, 0x20, 0x01]) [⟨12, false⟩])) .oddTarget = true := by
  decide

/-- I10: nothing loaded at the vector entry. -/
theorem test_I10 : isFault (step (beforeCheck 0x00 (0x002000, [0x00]) [⟨12, false⟩])) .noValue = true := by decide

/-- Steps 3 of the wake-up sequence: an accepted request ends the sleep. -/
theorem test_wake_up : gives ((beforeCheck 0x00 (0x000030, [0x00, 0x00, 0x20, 0x00]) [⟨12, false⟩]).setSleeping true)
    [(7, 0x00FFFEFC)] 0x80 0x002000 [(0xFFFEFC, [0x00, 0x00, 0x10, 0x00])] = true := by decide

/-! ### Start and end of a run (spec/95_test_vectors.md 2.3) -/

/-- A load image from an address on, empty elsewhere. -/
def image (a : Addr) (bytes : List Byte) : Memory := (loadBytes State.reset a bytes).mem

/-- S1: advanced mode, PC from vector entry 0 without its first byte. -/
theorem test_S1 : gives (State.startVector Config.defaultPlatform (image 0 [0x5A, 0x00, 0x10, 0x00]) []) [] 0x80 0x001000
    [] = true := by decide

/-- S2: normal mode. -/
theorem test_S2 : gives (State.startVector { Config.defaultPlatform with mode := .normal } (image 0 [0x10, 0x00]) []) []
    0x80 0x001000 [] = true := by decide

/-- S3: a direct start. -/
theorem test_S3 : has (.next (State.startDirect Config.defaultPlatform [] [] 0x001000 0x00FFFF00)) [(7, 0x00FFFF00)] 0x80
    0x001000 [] = true := by decide

/-- S4: an odd start address. -/
theorem test_S4 : isRefused (step (State.startVector Config.defaultPlatform (image 0 [0x00, 0x00, 0x10, 0x01]) []))
    .oddTarget = true := by decide

/-- S5: nothing loaded: the step after reset faults. -/
theorem test_S5 : isFault (step State.reset) .noValue = true := by decide

/-- E2: a word that is no instruction. -/
theorem test_E2 : isRefused (step (start .advanced [0x01, 0x10, 0x00, 0x00] 0x80 [] [])) .undefinedEncoding = true := by
  decide

/-- A platform whose byte at H'002000 has another class. -/
def withClass (k : MemClass) : State :=
  { start .advanced [0x6A, 0x88, 0x20, 0x00] 0x80 [(0, 1)] [] with
    platform := { Config.defaultPlatform with map := [⟨0x2000, 0x2000, k⟩] } }

/-- E6: a store to rom. -/
theorem test_E6 : isRefused (step (withClass .rom)) .storeToRom = true := by decide

/-- E7: a store to an address that is not there. -/
theorem test_E7 : isFault (step (withClass .none)) .noMemory = true := by decide

/-- A store to a device window. -/
theorem test_io : isRefused (step (withClass .io)) .ioAccess = true := by decide

/-- An instruction that the program has stored to (spec/20_memory.md R105). -/
theorem test_modified_code : isRefused (step ((start .advanced [0x00, 0x00] 0x80 [] []).setMem
    (start .advanced [0x00, 0x00] 0x80 [] []).mem [0x1001])) .modifiedCode = true := by decide

/-! ### Hypotheses that are met: for each obligation with hypotheses, states and operands that meet them together -/

/-- Bytes at both ends of the address space, ER0 and ER7 at its top, operands in ER1 to ER6. -/
def atTop (mode : Mode) : State :=
  start mode [] 0x01 [(0, 0x00FFFFFF), (1, 0x80000001), (2, 0x00000000), (7, 0xFFFFFFFE)]
    [(0xFFFFFE, [0x12, 0x34]), (0x000000, [0x56, 0x78, 0x9A, 0xBC])]

theorem witness_LoadFromMemory :
    let s := atTop .advanced
    (readByte s (eaInd s 0) = .next 0x34 ∧ readByte s (eaDisp16 s 1 0) = .next 0x56 ∧
      readByte s (eaDisp24 s 2 0) = .next 0x78 ∧ readByte s (eaAbs8 0xFF) = .next 0x34 ∧
      readByte s (eaAbs16 0xFFFF) = .next 0x34 ∧ readByte s (eaAbs24 0) = .next 0x56) ∧
    (readWord s (eaInd s 0) = .next 0x1234 ∧ readWord s (eaDisp16 s 1 0) = .next 0x5678 ∧
      readWord s (eaDisp24 s 2 0) = .next 0x5678 ∧ readWord s (eaAbs16 0xFFFF) = .next 0x1234 ∧
      readWord s (eaAbs24 0) = .next 0x5678) ∧
    readLong s (eaInd s 0) = .next 0x12345678 ∧ readLong s (eaDisp16 s 1 0) = .next 0x56789ABC ∧
      readLong s (eaDisp24 s 2 0) = .next 0x56789ABC ∧ readLong s (eaAbs16 0xFFFF) = .next 0x12345678 ∧
      readLong s (eaAbs24 0) = .next 0x56789ABC :=
  ⟨⟨rfl, rfl, rfl, rfl, rfl, rfl⟩, ⟨rfl, rfl, rfl, rfl, rfl⟩, rfl, rfl, rfl, rfl, rfl⟩

theorem witness_LoadPostIncrement :
    let s := atTop .advanced
    (erOf 9 ≠ 0 ∧ readByte s (eaInd s 0) = .next 0x34) ∧ (erOf 1 ≠ 0 ∧ readWord s (eaInd s 0) = .next 0x1234) ∧
      ((1 : ErNum) ≠ 0 ∧ readLong s (eaInd s 0) = .next 0x12345678) ∧
      (erOf 14 ≠ spNum ∧ readWord s (eaInd s spNum) = .next 0x1234) ∧
      (6 : ErNum) ≠ spNum ∧ readLong s (eaInd s spNum) = .next 0x12345678 :=
  ⟨⟨by decide, rfl⟩, ⟨by decide, rfl⟩, ⟨by decide, rfl⟩, ⟨by decide, rfl⟩, by decide, rfl⟩

/-- On the default platform every byte is `ram`. -/
theorem writable (mode : Mode) (cells : List (Addr × Byte)) : Writable (atTop mode) cells := fun _ _ => by
  cases mode <;> rfl

theorem witness_StoreToMemory :
    let s := atTop .advanced
    (Writable s [(eaInd s 0, readR8 s 1)] ∧ Writable s [(eaDisp16 s 1 0, readR8 s 9)] ∧
      Writable s [(eaDisp24 s 0x800000 0, readR8 s 1)] ∧ Writable s [(eaAbs8 0xFF, readR8 s 1)] ∧
      Writable s [(eaAbs16 0x8000, readR8 s 1)] ∧ Writable s [(eaAbs24 0xFFFFFF, readR8 s 1)]) ∧
    (Writable s (wordCells (eaInd s 0) (readR16 s 1)) ∧ Writable s (wordCells (eaDisp16 s 1 0) (readR16 s 9)) ∧
      Writable s (wordCells (eaDisp24 s 0x800000 0) (readR16 s 1)) ∧
      Writable s (wordCells (eaAbs16 0x8000) (readR16 s 1)) ∧ Writable s (wordCells (eaAbs24 0xFFFFFF) (readR16 s 1))) ∧
    Writable s (longCells (eaInd s 0) (readEr s 1)) ∧ Writable s (longCells (eaDisp16 s 1 0) (readEr s 1)) ∧
      Writable s (longCells (eaDisp24 s 0x800000 0) (readEr s 1)) ∧
      Writable s (longCells (eaAbs16 0x8000) (readEr s 1)) ∧ Writable s (longCells (eaAbs24 0xFFFFFF) (readEr s 1)) :=
  ⟨⟨writable _ _, writable _ _, writable _ _, writable _ _, writable _ _, writable _ _⟩,
    ⟨writable _ _, writable _ _, writable _ _, writable _ _, writable _ _⟩, writable _ _, writable _ _, writable _ _,
    writable _ _, writable _ _⟩

/-- Pre-decrement from 0: the address wraps. -/
theorem witness_StorePreDecrement :
    let s := atTop .normal
    (erOf 9 ≠ 2 ∧ Writable s [(addrOf (readEr s 2 - 1#32), readR8 s 9)]) ∧
      (erOf 9 ≠ 2 ∧ Writable s (wordCells (addrOf (readEr s 2 - 2#32)) (readR16 s 9))) ∧
      ((1 : ErNum) ≠ 2 ∧ Writable s (longCells (addrOf (readEr s 2 - 4#32)) (readEr s 1))) ∧
      (erOf 14 ≠ spNum ∧ Writable s (wordCells (addrOf (pushedSp s 2)) (readR16 s 14))) ∧
      (6 : ErNum) ≠ spNum ∧ Writable s (longCells (addrOf (pushedSp s 4)) (readEr s 6)) :=
  ⟨⟨by decide, writable _ _⟩, ⟨by decide, writable _ _⟩, ⟨by decide, writable _ _⟩, ⟨by decide, writable _ _⟩,
    by decide, writable _ _⟩

theorem witness_PushThenPopRestores :
    let s := atTop .advanced
    (erOf 1 ≠ spNum ∧ erOf 14 ≠ spNum ∧ Writable s (wordCells (addrOf (pushedSp s 2)) (readR16 s 1))) ∧
      (1 : ErNum) ≠ spNum ∧ (6 : ErNum) ≠ spNum ∧ Writable s (longCells (addrOf (pushedSp s 4)) (readEr s 1)) :=
  ⟨⟨by decide, by decide, writable _ _⟩, by decide, by decide, writable _ _⟩

/-- Both ends of every row of the DAA table select the row. -/
theorem witness_DecimalAdjustRows_daa : daaTable.all (fun r =>
    bcdLookup daaTable r.c r.h (BitVec.ofNat 8 (r.upperFrom * 16 + r.lowerFrom)) == some r &&
      bcdLookup daaTable r.c r.h (BitVec.ofNat 8 (r.upperTo * 16 + r.lowerTo)) == some r) = true := by decide

/-- Both ends of every row of the DAS table select the row. -/
theorem witness_DecimalAdjustRows_das : dasTable.all (fun r =>
    bcdLookup dasTable r.c r.h (BitVec.ofNat 8 (r.upperFrom * 16 + r.lowerFrom)) == some r &&
      bcdLookup dasTable r.c r.h (BitVec.ofNat 8 (r.upperTo * 16 + r.lowerTo)) == some r) = true := by decide

/-- The largest BCD operands with the old C set, and 0. -/
theorem witness_DecimalArithmetic :
    let s := start .advanced [] 0x01 [(0, 0x00000099), (1, 0x00000000)] []
    IsBcd (readR8 s 8) ∧ IsBcd (readR8 s 9) ∧ ccrGet s.ccr .c = true := by unfold IsBcd; decide

/-- The largest quotients that fit. -/
theorem witness_UnsignedDivision :
    let s := start .advanced [] 0 [(0, 0x0000FEFF), (1, 0xFFFEFFFF), (2, 0x0000FFFF)] []
    ((readR8 s 10).toNat ≠ 0 ∧ (readR16 s 0).toNat / (readR8 s 10).toNat = 255) ∧
      (readR16 s 2).toNat ≠ 0 ∧ (readEr s 1).toNat / (readR16 s 2).toNat = 65535 := by decide

/-- The least and the greatest quotient that fits, in both widths, and a quotient 0 of the dividend 0. -/
theorem witness_SignedDivision :
    let s := start .advanced [] 0 [(0, 0x0080FF80), (1, 0x007FFF00), (2, 0xFFFF8000), (3, 0xFFFF0001), (4, 0x00007FFF)] []
    ((readR8 s 11).toInt ≠ 0 ∧ (readR16 s 0).toInt.tdiv (readR8 s 11).toInt = -128) ∧
      ((readR8 s 11).toInt ≠ 0 ∧ (readR16 s 9).toInt.tdiv (readR8 s 11).toInt = 127) ∧
      ((readR16 s 3).toInt ≠ 0 ∧ (readEr s 2).toInt.tdiv (readR16 s 3).toInt = -32768) ∧
      ((readR16 s 3).toInt ≠ 0 ∧ (readEr s 4).toInt.tdiv (readR16 s 3).toInt = 32767) ∧
      (readR16 s 12).toInt.tdiv (readR8 s 11).toInt = 0 ∧ ¬((readR16 s 12).toInt < 0 ∨ 0 < (readR16 s 12).toInt) := by decide

/-- A readable and writable byte at @ERd and at @aa:8 (BitChangeInMemory, BitTest, BitToCarry). -/
theorem witness_bits_in_memory :
    let s := atTop .advanced
    (readByte s (eaInd s 0) = .next 0x34 ∧ Writable s [(eaInd s 0, 0x34)]) ∧
      readByte s (eaAbs8 0xFF) = .next 0x34 ∧ Writable s [(eaAbs8 0xFF, 0x34)] :=
  ⟨⟨rfl, writable _ _⟩, rfl, writable _ _⟩

/-- A branch taken to an even target across both ends of the address space, to an odd target, and not taken. -/
theorem witness_ConditionalBranches :
    let s := start .advanced [] 0x0F [] []
    ((branchTarget s (.d16 0x8000)).toNat % 2 = 0 ∧ (branchTarget s (.d8 0x80)).toNat % 2 = 0) ∧
      (branchTarget s (.d8 0x7F)).toNat % 2 = 1 ∧ ccrGet s.ccr .z = true ∧ (!ccrGet s.ccr .z) = false := by decide

/-- Table entries at address 0 and a stack at both ends. -/
theorem witness_Jumps :
    let s := atTop .advanced
    (readEr s 2).toNat % 2 = 0 ∧ (0xFFFFFE#24).toNat % 2 = 0 ∧
      (s.platform.mode = .advanced ∧ readLong s (BitVec.ofNat 24 (0x00#8).toNat) = .next 0x56789ABC) ∧
      (0x56789ABC#32).toNat % 2 = 0 ∧ (atTop .normal).platform.mode = .normal ∧
      readWord (atTop .normal) (BitVec.ofNat 24 (0x00#8).toNat) = .next 0x5678 :=
  ⟨by decide, by decide, ⟨rfl, rfl⟩, by decide, rfl, rfl⟩

/-- Also for CallThenReturn: PC is even. -/
theorem witness_SubroutineCalls :
    let s := atTop .advanced
    let n := atTop .normal
    Writable s (returnCells s.platform (addrOf (pushedSp s (returnSize s.platform))) 0#8 s.pc) ∧
      Writable n (returnCells n.platform (addrOf (pushedSp n (returnSize n.platform))) 0#8 n.pc) ∧ s.pc.toNat % 2 = 0 ∧
      (branchTarget s (.d16 0x8000)).toNat % 2 = 0 ∧ ((2 : ErNum) ≠ spNum ∧ (eaInd s 2).toNat % 2 = 0) ∧
      (0xFFFFFE#24).toNat % 2 = 0 ∧ memIndTarget s 0 = .next 0x789ABC ∧ (0x789ABC#24).toNat % 2 = 0 ∧
      memIndTarget n 0 = .next 0x005678 :=
  ⟨writable _ _, writable _ _, by decide, by decide, ⟨by decide, by decide⟩, by decide, rfl, by decide, rfl⟩

/-- Also for ReturnFromException: a longword and a word with an even target at SP. -/
theorem witness_ReturnFromSubroutine :
    let s := atTop .advanced
    let n := atTop .normal
    (s.platform.mode = .advanced ∧ readLong s (eaInd s spNum) = .next 0x12345678) ∧
      (n.platform.mode = .normal ∧ readWord { n with er := n.er.set 7 0 } (addrOf 0) = .next 0x5678 ∧
        readLong { n with er := n.er.set 7 0 } (addrOf 0) = .next 0x56789ABC) :=
  ⟨⟨rfl, rfl⟩, rfl, rfl, rfl⟩

/-- Odd targets in a register, in the instruction, in the table and on the stack. -/
theorem witness_OddTargetsRefused :
    let s := start .advanced [] 0 [(0, 0x00FFFFFF), (7, 0x00002000)] [(0xF0, [0, 0, 0x10, 0x01]), (0x2000, [0, 0, 0x10, 0x01])]
    let n := start .normal [] 0 [(7, 0x00002000)] [(0x2000, [0x10, 0x01])]
    ((readEr s 0).toNat % 2 = 1 ∧ (0xFFFFFF#24).toNat % 2 = 1 ∧ memIndTarget s 0xF0 = .next 0x001001 ∧
      (branchTarget s (.d8 1)).toNat % 2 = 1) ∧ (0 : ErNum) ≠ spNum ∧
      Writable s (returnCells s.platform (addrOf (pushedSp s (returnSize s.platform))) 0#8 s.pc) ∧
      (readLong s (eaInd s spNum) = .next 0x00001001 ∧ (0x00001001#32).toNat % 2 = 1) ∧
      n.platform.mode = .normal ∧ readWord n (eaInd n spNum) = .next 0x1001 :=
  ⟨⟨by decide, by decide, rfl, by decide⟩, by decide, fun _ _ => rfl, ⟨rfl, by decide⟩, rfl, rfl⟩

/-- Exception entry meets no stop, its arithmetic condition as a test. -/
theorem entryReady {s : State} {v : VectorNum} {target : Addr}
    (frame : Writable s (frameCells s.platform (addrOf (pushedSp s 4)) s.ccr 0#8 s.pc))
    (vector : readVector s v = .next target)
    (apart : ((frameCells s.platform (addrOf (pushedSp s 4)) s.ccr 0#8 s.pc).all fun c =>
      (List.range (returnSize s.platform)).all fun k =>
        busAddr s.platform c.1 != returnSize s.platform * v.val + k) = true)
    (even : target.getLsbD 0 = false) : EntryReady s v target :=
  ⟨frame, vector, fun c hc k hk => by
    have h := List.all_eq_true.1 (List.all_eq_true.1 apart c hc) k (List.mem_range.2 hk)
    simpa using h, even⟩

/-- The first and the last TRAPA vector and the last vector of the table; the stack wraps below 0. -/
def handlers : State :=
  start .advanced [] 0x0F [(7, 0x00000000)]
    [(0x10, [0xFF, 0x00, 0x30, 0x00]), (0x1C, [0, 0, 0x30, 0x06]), (0xF0, [0, 0, 0x40, 0x00])]

theorem witness_TrapEntry : EntryReady handlers (trapVector 0) 0x003000 ∧ EntryReady handlers (trapVector 3) 0x003006 ∧
    handlers.sleeping = false ∧ handlers.pc.toNat % 2 = 0 :=
  ⟨entryReady (fun _ _ => rfl) rfl (by decide) (by decide), entryReady (fun _ _ => rfl) rfl (by decide) (by decide), rfl,
    by decide⟩

theorem witness_TrapEntry_normal :
    EntryReady (start .normal [] 0 [(7, 0x0000)] [(0x08, [0x30, 0x00])]) (trapVector 0) 0x003000 :=
  entryReady (fun _ _ => rfl) rfl (by decide) (by decide)

theorem witness_InterruptAccepted :
    let s := handlers.setIrq [[⟨60, false⟩]]
    s.startPending = false ∧ acceptedRequest s = some ⟨60, false⟩ ∧ EntryReady s 60 0x004000 :=
  ⟨rfl, rfl, entryReady (fun _ _ => rfl) rfl (by decide) (by decide)⟩

theorem witness_MaskedRequestsHeld :
    let s := (start .advanced [0x00, 0x00] 0x80 [] []).setIrq [[⟨60, false⟩, ⟨0, false⟩]]
    s.startPending = false ∧ s.platform.uiIsMask = false ∧ ccrGet s.ccr .i = true ∧
      (∀ r ∈ s.irq.headD [], r.nmi = false) ∧ s.sleeping = false ∧ (s.setSleeping true).sleeping = true := by decide

/-- A maskable and a non-maskable request, and a platform on which UI masks too. -/
theorem witness_RequestChosen :
    let s := (start .advanced [] 0x00 [] []).setIrq [[⟨60, false⟩, ⟨0, true⟩]]
    let u := { start .advanced [] 0xC0 [] [] with platform := { Config.defaultPlatform with uiIsMask := true } }
    acceptedRequest s = some ⟨0, true⟩ ∧ s.platform.uiIsMask = false ∧ u.platform.uiIsMask = true ∧
      (ccrGet u.ccr .i = true ∧ ccrGet u.ccr .ui = true) ∧ ccrGet s.ccr .i = false ∧ ccrGet s.ccr .ui = false := by decide

theorem witness_LdcFromMemory :
    let s := atTop .advanced
    readWord s (eaInd s 0) = .next 0x1234 ∧ readWord s (eaDisp16 s 1 0) = .next 0x5678 ∧
      readWord s (eaDisp24 s 2 0) = .next 0x5678 ∧ readWord s (eaAbs16 0xFFFF) = .next 0x1234 ∧
      readWord s (eaAbs24 0) = .next 0x5678 ∧ readWord s (eaInd s 7) = .next 0x1234 := ⟨rfl, rfl, rfl, rfl, rfl, rfl⟩

theorem witness_StcToMemory :
    let s := atTop .advanced
    Writable s (wordCells (eaInd s 0) 0#16) ∧ Writable s (wordCells (eaDisp16 s 1 0) 0#16) ∧
      Writable s (wordCells (eaDisp24 s 0x800000 0) 0#16) ∧ Writable s (wordCells (eaAbs16 0x8000) 0#16) ∧
      Writable s (wordCells (eaAbs24 0xFFFFFF) 0#16) ∧ Writable s (wordCells (addrOf (readEr s 2 - 2#32)) 0#16) :=
  ⟨writable _ _, writable _ _, writable _ _, writable _ _, writable _ _, writable _ _⟩

/-- Three bytes from the top of the address space over its end, to H'003000; both counts are 3. -/
def block : State :=
  start .advanced [] 0xFF [(4, 0xAABB0003), (5, 0x00FFFFFE), (6, 0x00003000)] [(0xFFFFFE, [0, 1]), (0x000000, [2])]

theorem witness_BlockTransfer : (readEr block 4).toNat % 256 = 3 ∧ (readEr block 4).toNat % 65536 = 3 ∧
    BlockReady block 3 (BitVec.ofNat 8) :=
  ⟨by decide, by decide, fun k h => match k, h with
      | 0, _ => rfl
      | 1, _ => rfl
      | 2, _ => rfl
      | k + 3, h => absurd h (by omega), fun _ _ => rfl, by decide +kernel⟩

/-- No byte at all, and the fill by overlap of 255 bytes. -/
theorem witness_BlockTransfer_fill :
    let s := start .advanced [] 0 [(4, 0x000000FF), (5, 0x00FFFFFF), (6, 0x01000000)] [(0xFFFFFF, [0xAB])]
    BlockReady s 0 (BitVec.ofNat 8) ∧ readEr s 6 = readEr s 5 + 1#32 ∧ readByte s (eaInd s 5) = .next 0xAB ∧
      ∀ k < (readEr s 4).toNat % 256, classOf s.platform (busAddr s.platform (eaInd s 6 + BitVec.ofNat 24 k)) = .ram :=
  ⟨⟨fun _ h => absurd h (Nat.not_lt_zero _), fun _ h => absurd h (Nat.not_lt_zero _),
    fun _ h => absurd h (Nat.not_lt_zero _)⟩, by decide, rfl, fun _ _ => rfl⟩

/-- The longest and a shortest encoding (DecodeReadsEncode, EncodeReadsDecode, LengthRule). -/
theorem witness_DecodeReadsEncode : (Instr.movLStDisp24 7 0xFFFFFF 7).isAlias = false ∧ Instr.nop.isAlias = false ∧
    decode [0x00, 0x00, 0xFF] = .ok .nop 2 ∧
    decode [0x01, 0x00, 0x78, 0xF0, 0x6B, 0xA7, 0x00, 0xFF, 0xFF, 0xFF] = .ok (.movLStDisp24 7 0xFFFFFF 7) 10 := by decide

/-- An instruction in the last two bytes of the address space, nothing after it. -/
theorem witness_EncodedInstructionRuns :
    let s := (start .advanced [] 0 [] [(0xFFFFFE, [0xF8, 0x80])]).setPc 0xFFFFFE
    (Instr.movBImm 0x80 8).isAlias = false ∧ s.startPending = false ∧ s.sleeping = false ∧ acceptedRequest s = none ∧
      s.pc.toNat % 2 = 0 ∧ encodeWith 0 (.movBImm 0x80 8) = [0xF8, 0x80] ∧
      fetchByte s (s.pc + BitVec.ofNat 24 0) = .next 0xF8 ∧ fetchByte s (s.pc + BitVec.ofNat 24 1) = .next 0x80 :=
  ⟨rfl, rfl, rfl, rfl, by decide, rfl, rfl, rfl⟩

theorem witness_StepRunsDecoded :
    let s := (start .advanced [] 0 [] [(0xFFFFFE, [0xF8, 0x80])]).setPc 0xFFFFFE
    s.startPending = false ∧ s.sleeping = false ∧ acceptedRequest s = none ∧
      decode (codeBytes s maxLength (evenAddr s.pc)) = .ok (.movBImm 0x80 8) 2 := by decide

/-- An undefined word at the top of the address space; a first word whose second one the program has stored to, has no
value, is a device's; an odd PC. -/
theorem witness_StepRunsDecoded_stops :
    let s := (start .advanced [] 0 [] [(0xFFFFFE, [0x01, 0xF1])]).setPc 0xFFFFFF
    let c := start .advanced [0x79, 0x00] 0 [] []
    let m := c.setMem c.mem [0x1002]
    let d := (withClass .io).setPc 0x002000
    (s.startPending = false ∧ s.sleeping = false ∧ acceptedRequest s = none ∧
      fetchByte s (evenAddr s.pc) = .next 0x01 ∧ fetchByte s (evenAddr s.pc + 1#24) = .next 0xF1) ∧
      decode [0x01, 0xF1] = .undefined ∧ decode [0x79, 0x00] = .short ∧ decode [] = .short ∧
      (fetchByte m (evenAddr m.pc) = .next 0x79 ∧ fetchByte m (evenAddr m.pc + 1#24) = .next 0x00 ∧
        m.startPending = false ∧ m.sleeping = false ∧ acceptedRequest m = none ∧ 0x1002 ∈ m.stored ∧
        0x1002 ∉ c.stored ∧ readByte c 0x001002 = .fault .noValue) ∧
      (d.startPending = false ∧ d.sleeping = false ∧ acceptedRequest d = none ∧ 0x2000 ∉ d.stored ∧
        readByte d (evenAddr d.pc) = .refused .ioAccess) :=
  ⟨⟨rfl, rfl, rfl, rfl, rfl⟩, by decide, by decide, rfl, ⟨rfl, rfl, rfl, rfl, rfl, by decide, by decide, rfl⟩,
    rfl, rfl, rfl, by decide, rfl⟩

/-- A store by a program in a good state: the step keeps the invariant (also for OnlyRamChanges, whose clauses it meets
with the stored address and a rom byte). -/
def storing : State :=
  { start .advanced [0x68, 0x98] 0 [(1, 0x00002000)] [] with
    platform := { Config.defaultPlatform with map := [⟨0x1000, 0x1FFF, .rom⟩] } }

theorem witness_StepKeepsInvariant : storing.Inv ∧ has (step storing) [] 0x04 0x001002 [(0x2000, [0x00])] = true :=
  ⟨⟨by decide, by decide, by decide, by decide⟩, by decide⟩

theorem witness_OnlyRamChanges : classOf storing.platform 0x1000 ≠ .ram ∧ memGet storing.mem 0x1000 = some 0x68 := by decide

theorem witness_ResetMeetsInvariant : Memory.wf (image 0 [0x5A, 0x00, 0x10, 0x00]) ∧ (0x001000#24).toNat % 2 = 0 := by decide

/-- Entries of vector 0 at an even and at an odd address. -/
theorem witness_StartSequence :
    let s := State.startVector Config.defaultPlatform (image 0 [0xFF, 0xFF, 0xFF, 0xFE]) []
    let o := State.startVector Config.defaultPlatform (image 0 [0x00, 0x00, 0x00, 0x01]) []
    s.startPending = true ∧ readVector s 0 = .next 0xFFFFFE ∧ (0xFFFFFE#24).toNat % 2 = 0 ∧ o.startPending = true ∧
      readVector o 0 = .next 0x000001 ∧ (0x000001#24).toNat % 2 = 1 := ⟨rfl, rfl, by decide, rfl, rfl, by decide⟩

/-- An instruction that is none of the loads of CCR, and an exception entry. -/
theorem witness_UserBitsWritten : loadsCcr (.trapa 3) = false ∧ loadsCcr (.addBReg 0 8) = false ∧
    has (exec (.trapa 3) handlers) [] 0x8F 0x003006 [] = true ∧
    has (exec (.addBReg 0 8) handlers) [(0, 0)] 0x04 0x001000 [] = true ∧
    has (exceptionEntry 60 handlers) [] 0x8F 0x004000 [] = true := by decide

theorem witness_SleepBit :
    let s := handlers.setSleeping true
    has (exec .sleep handlers) [] 0x0F 0x001000 [] = true ∧ s.startPending = false ∧ s.sleeping = true ∧
      acceptedRequest s = none := by decide

/-- Two addresses that are one bus address in normal mode, and a word and a longword over the end of the space. -/
theorem witness_MemoryReads :
    let s := atTop .advanced
    let n := atTop .normal
    (s.platform.mode = .advanced ∧ n.platform.mode = .normal ∧
      busAddr n.platform 0xFF0002 = busAddr n.platform 0x000002) ∧
      (readByte s (0xFFFFFF &&& 0xFFFFFE#24) = .next 0x12 ∧ readByte s ((0xFFFFFF &&& 0xFFFFFE#24) + 1#24) = .next 0x34) ∧
      readWord s 0xFFFFFF = .next 0x1234 ∧ readWord s (0xFFFFFF + 2#24) = .next 0x5678 :=
  ⟨⟨rfl, rfl, by decide⟩, ⟨rfl, rfl⟩, rfl, rfl⟩

/-- Each class of memory at the ends of its region, with and without a value. -/
def classes : State :=
  { start .advanced [] 0 [] [(0x00000F, [0x12, 0x34, 0x56])] with
    platform := { Config.defaultPlatform with map := [⟨0x00, 0x0F, .rom⟩, ⟨0x10, 0x1F, .none⟩, ⟨0x20, 0xFFFFFE, .io⟩] } }

/-- The classes, with a value at an address that is not there (also the byte writes of ReadAfterWrite). -/
theorem witness_MemoryReads_classes :
    (classOf classes.platform 0x00 = .rom ∧ memGet classes.mem 0x00 = none ∧ classOf classes.platform 0x0F = .rom ∧
      memGet classes.mem 0x0F = some 0x12) ∧
    (classOf classes.platform 0x10 = .none ∧ classOf classes.platform 0x1F = .none) ∧
    (classOf classes.platform 0x20 = .io ∧ classOf classes.platform 0xFFFFFE = .io) ∧
    classOf classes.platform 0xFFFFFF = .ram ∧ memGet classes.mem 0xFFFFFF = none ∧
      busAddr classes.platform 0xFFFFFF = 0xFFFFFF := by decide

theorem witness_ReadAfterWrite :
    has (writeByte (atTop .advanced) 0xFFFFFF 0xAB) [] 0x01 0x001000 [(0xFFFFFF, [0xAB])] = true ∧
      has (writeWord (atTop .normal) 0xFFFFFF 0xABCD) [] 0x01 0x001000 [(0xFFFE, [0xAB, 0xCD])] = true ∧
      has (writeLong (atTop .advanced) 0xFFFFFF 0x01020304) [] 0x01 0x001000 [(0xFFFFFE, [1, 2, 3, 4])] = true := by decide


end Sys2Proof.Tests
end

section
/-!
SUPPORT. The decoder reads back what the encoder wrote: one lemma per kind of field, then one case per instruction.
-/

namespace Sys2Proof

/-! ### Fields -/

@[simp] theorem withWord_cons (a b : Byte) (t : List Byte) (f : Byte → Byte → List Byte → Decoded) :
    withWord (a :: b :: t) f = f a b t := rfl

@[simp] theorem withLow3_append (e : BitVec 3) (f : BitVec 3 → Decoded) : withLow3 (0#1 ++ e) f = f e := by
  simp [withLow3]

@[simp] theorem ifZero_zero {w : Nat} (d : Decoded) : ifZero 0#w d = d := if_pos rfl

/-- The top bit of a nibble written as a number. -/
@[simp] theorem topBit_ofNat (n : Nat) : topBit (BitVec.ofNat 4 n) = n.testBit 3 := by
  rw [topBit, BitVec.getLsbD_ofNat]; rfl

@[simp] theorem with16_be16 (v : Word) (f : Word → Decoded) : with16 (be16 v) f = f v := congrArg f (be16_join v)

/-- The last two bytes of a 24-bit field, whose first byte ends the word before. -/
@[simp] theorem with16_low_be24 (v : BitVec 24) (f : Word → Decoded) :
    with16 [byteOf v 1, byteOf v 0] f = f (byteOf v 1 ++ byteOf v 0) := rfl

@[simp] theorem with0x24_be24 (v : BitVec 24) (f : BitVec 24 → Decoded) : with0x24 (0x00#8 :: be24 v) f = f v := by
  simp [with0x24, be24]

@[simp] theorem with32_be32 (v : Long) (f : Long → Decoded) : with32 (be32 v) f = f v := congrArg f (be32_join v)

@[simp] theorem be16_length (v : Word) : (be16 v).length = 2 := rfl
@[simp] theorem be24_length (v : BitVec 24) : (be24 v).length = 3 := rfl
@[simp] theorem be32_length (v : Long) : (be32 v).length = 4 := rfl

/-! ### Lengths -/

/-- No encoding is longer than the longest instruction (R111). -/
theorem encodeWith_length_le (ign : BitVec 1) (i : Instr) : (encodeWith ign i).length ≤ maxLength := by
  cases i with
  | bra d | brn d | bhi d | bls d | bcc d | bcs d | bne d | beq d | bvc d | bvs d | bpl d | bmi d | bge d | blt d
  | bgt d | ble d | bsr d => cases d <;> exact Nat.le_of_ble_eq_true rfl
  | _ => exact Nat.le_of_ble_eq_true rfl

/-! ### Routines

One lemma for each routine of the decoder: bytes that begin in its way are an instruction where it says so. -/

section
variable {l r : List Byte} {c b a x : Byte} {e : ErNum} {i : Instr}

/-- The form that the others share, for a word whose first byte leaves nothing to a routine. -/
theorem decode_bytes (h : l = c :: b :: r) (hi : decode (c :: b :: r) = .ok i (r.length + 2)) :
    decode l = .ok i l.length := by
  subst h; exact hi

theorem decode_page0 (h : l = c :: b :: r) (hc : hiNib c = 0x0#4)
    (hi : decode0 (loNib c) b r = .ok i (r.length + 2)) : decode l = .ok i l.length :=
  decode_bytes h (by simp [decode, hc, hi])

theorem decode_page1 (h : l = c :: b :: r) (hc : hiNib c = 0x1#4)
    (hi : decode1 (loNib c) b = .ok i (r.length + 2)) : decode l = .ok i l.length :=
  decode_bytes h (by simp [decode, hc, hi])

theorem decode_page5 (h : l = c :: b :: r) (hc : hiNib c = 0x5#4)
    (hi : decode5 (loNib c) b r = .ok i (r.length + 2)) : decode l = .ok i l.length :=
  decode_bytes h (by simp [decode, hc, hi])

theorem decode_page6 (h : l = c :: b :: r) (hc : hiNib c = 0x6#4)
    (hi : decode6 (loNib c) b r = .ok i (r.length + 2)) : decode l = .ok i l.length :=
  decode_bytes h (by simp [decode, hc, hi])

theorem decode_page7 (h : l = c :: b :: r) (hc : hiNib c = 0x7#4)
    (hi : decode7 (loNib c) b r = .ok i (r.length + 2)) : decode l = .ok i l.length :=
  decode_bytes h (by simp [decode, hc, hi])

theorem decode_page0100 (h : l = 0x01#8 :: 0x00#8 :: r) (hi : decode0100 r = .ok i (r.length + 2)) :
    decode l = .ok i l.length :=
  decode_page0 h rfl hi

theorem decode_page0140 (h : l = 0x01#8 :: 0x40#8 :: r) (hi : decode0140 r = .ok i (r.length + 2)) :
    decode l = .ok i l.length :=
  decode_page0 h rfl hi

theorem decode_page01Arith (h : l = 0x01#8 :: b :: r) (hb : b ∈ [0xC0#8, 0xD0#8, 0xF0#8])
    (hi : decode01Arith b r = .ok i (r.length + 2)) : decode l = .ok i l.length :=
  decode_page0 h rfl (by
    simp only [List.mem_cons, List.not_mem_nil, or_false] at hb
    obtain rfl | rfl | rfl := hb <;> exact hi)

theorem decode_page78 (h : l = 0x78#8 :: ((0#1 ++ e) ++ 0x0#4) :: r) (hi : decode78 e r = .ok i (r.length + 2)) :
    decode l = .ok i l.length :=
  decode_page7 h rfl (by simp [decode7, hi])

theorem decode_page79 (h : l = 0x79#8 :: b :: r) (hi : decode79 (hiNib b) (loNib b) r = .ok i (r.length + 2)) :
    decode l = .ok i l.length :=
  decode_page7 h rfl hi

theorem decode_page7A (h : l = 0x7A#8 :: b :: r) (hi : decode7A (hiNib b) (loNib b) r = .ok i (r.length + 2)) :
    decode l = .ok i l.length :=
  decode_page7 h rfl hi

theorem decode_page7C (h : l = [0x7C#8, (0#1 ++ e) ++ 0x0#4, a, x]) (hi : decodeBitReadInd e a x = .ok i 4) :
    decode l = .ok i l.length :=
  decode_page7 h rfl (by simp [decode7, hi])

theorem decode_page7D (h : l = [0x7D#8, (0#1 ++ e) ++ 0x0#4, a, x]) (hi : decodeBitWriteInd e a x = .ok i 4) :
    decode l = .ok i l.length :=
  decode_page7 h rfl (by simp [decode7, hi])

theorem decode_page7E (h : l = [0x7E#8, b, a, x]) (hi : decodeBitReadAbs b a x = .ok i 4) :
    decode l = .ok i l.length :=
  decode_page7 h rfl hi

theorem decode_page7F (h : l = [0x7F#8, b, a, x]) (hi : decodeBitWriteAbs b a x = .ok i 4) :
    decode l = .ok i l.length :=
  decode_page7 h rfl hi

end

/-! ### Instructions -/

/-- Decoding an encoding gives the instruction back (R147). The cases stand by the routines of the decoder that read
them. -/
theorem decode_encodeWith (ign : BitVec 1) {i : Instr} (h : i.isAlias = false) :
    decode (encodeWith ign i) = .ok i (encodeWith ign i).length := by
  cases i with
  | movBImm | movBLdAbs8 | movBStAbs8 | addBImm | addxBImm | subxBImm | cmpBImm | andBImm | orBImm | xorBImm =>
    exact decode_bytes rfl (by simp [decode])
  | pushW | pushL | popW | popL => cases h
  | movBReg | movWReg | movLReg | addBReg | addWReg | addLReg | addxBReg | incB | incW1 | incW2 | incL1 | incL2
  | adds1 | adds2 | adds4 | daa | ldcBImm | ldcBReg | stcBReg | andc | orc | xorc | sleep | nop =>
    exact decode_page0 rfl rfl (by simp [decode0])
  | movLLdInd | movLLdDisp16 | movLLdDisp24 | movLLdInc | movLLdAbs16 | movLLdAbs24 | movLStInd | movLStDisp16
  | movLStDisp24 | movLStDec | movLStAbs16 | movLStAbs24 => exact decode_page0100 rfl (by simp [decode0100])
  | ldcWInd | ldcWDisp16 | ldcWDisp24 | ldcWInc | ldcWAbs16 | ldcWAbs24 | stcWInd | stcWDisp16 | stcWDisp24 | stcWDec
  | stcWAbs16 | stcWAbs24 => exact decode_page0140 rfl (by simp [decode0140])
  | mulxsB | mulxsW | divxsB | divxsW | andLReg | orLReg | xorLReg =>
    exact decode_page01Arith rfl (by decide) (by simp [decode01Arith])
  | subBReg | subWReg | subLReg | subxBReg | decB | decW1 | decW2 | decL1 | decL2 | subs1 | subs2 | subs4 | das
  | cmpBReg | cmpWReg | cmpLReg | negB | negW | negL | extuW | extuL | extsW | extsL | andBReg | orBReg | xorBReg
  | notB | notW | notL | shalB | shalW | shalL | sharB | sharW | sharL | shllB | shllW | shllL | shlrB | shlrW | shlrL
  | rotlB | rotlW | rotlL | rotrB | rotrW | rotrL | rotxlB | rotxlW | rotxlL | rotxrB | rotxrW | rotxrL =>
    exact decode_page1 rfl rfl (by simp [decode1])
  | mulxuB | mulxuW | divxuB | divxuW | jmpInd | jmpAbs24 | jmpMemInd | jsrInd | jsrAbs24 | jsrMemInd | trapa | rts
  | rte => exact decode_page5 rfl rfl (by simp [decode5])
  | bsr d => cases d <;> exact decode_page5 rfl rfl (by simp [decode5])
  | bra d | brn d | bhi d | bls d | bcc d | bcs d | bne d | beq d | bvc d | bvs d | bpl d | bmi d | bge d | blt d
  | bgt d | ble d => cases d with
    | d8 => exact decode_bytes rfl rfl
    | d16 => exact decode_page5 rfl rfl (by simp [decode5, bccOf])
  | movBLdInd | movBLdDisp16 | movBLdInc | movBLdAbs16 | movBLdAbs24 | movBStInd | movBStDisp16 | movBStDec
  | movBStAbs16 | movBStAbs24 | movWLdInd | movWLdDisp16 | movWLdInc | movWLdAbs16 | movWLdAbs24 | movWStInd
  | movWStDisp16 | movWStDec | movWStAbs16 | movWStAbs24 | andWReg | orWReg | xorWReg | bsetRnReg | bclrRnReg
  | bnotRnReg | btstRnReg | bstReg | bistReg => exact decode_page6 rfl rfl (by simp [decode6])
  | bsetImmReg | bclrImmReg | bnotImmReg | btstImmReg | bandReg | biandReg | borReg | biorReg | bxorReg | bixorReg
  | bldReg | bildReg => exact decode_page7 rfl rfl (by simp [decode7])
  | movBLdDisp24 | movBStDisp24 | movWLdDisp24 | movWStDisp24 => exact decode_page78 rfl (by simp [decode78])
  | movWImm | addWImm | subWImm | cmpWImm | andWImm | orWImm | xorWImm => exact decode_page79 rfl (by simp [decode79])
  | movLImm | addLImm | subLImm | cmpLImm | andLImm | orLImm | xorLImm => exact decode_page7A rfl (by simp [decode7A])
  | eepmovB | eepmovW => exact decode_bytes rfl rfl
  | btstImmInd | btstRnInd | bandInd | biandInd | borInd | biorInd | bxorInd | bixorInd | bldInd | bildInd =>
    exact decode_page7C rfl (by simp [decodeBitReadInd])
  | bsetImmInd | bsetRnInd | bclrImmInd | bclrRnInd | bnotImmInd | bnotRnInd | bstInd | bistInd =>
    exact decode_page7D rfl (by simp [decodeBitWriteInd])
  | btstImmAbs8 | btstRnAbs8 | bandAbs8 | biandAbs8 | borAbs8 | biorAbs8 | bxorAbs8 | bixorAbs8 | bldAbs8 | bildAbs8 =>
    exact decode_page7E rfl (by simp [decodeBitReadAbs])
  | bsetImmAbs8 | bsetRnAbs8 | bclrImmAbs8 | bclrRnAbs8 | bnotImmAbs8 | bnotRnAbs8 | bstAbs8 | bistAbs8 =>
    exact decode_page7F rfl (by simp [decodeBitWriteAbs])

/-- Bytes after an encoding play no part (R144). -/
theorem decode_encodeWith_append (ign : BitVec 1) {i : Instr} (h : i.isAlias = false) (rest : List Byte) :
    decode (encodeWith ign i ++ rest) = .ok i (encodeWith ign i).length := by
  have e := decode_encodeWith ign h
  rw [decode_append (by simp [e]), e]

end Sys2Proof

/-!
SUPPORT. What a step fetches and runs, and the obligations about it.
-/

namespace Sys2Proof.Machine

variable {s : State}

/-! ### Fetching -/

/-- A byte the program has stored to is not fetched (R105, D14). -/
theorem fetchByte_stored {a : Addr} (h : busAddr s.platform a ∈ s.stored) : fetchByte s a = .refused .modifiedCode :=
  if_pos (List.contains_iff_mem.2 h)

/-- Any other byte is fetched by reading it. -/
theorem fetchByte_not_stored {a : Addr} (h : busAddr s.platform a ∉ s.stored) : fetchByte s a = readByte s a :=
  if_neg (mt List.contains_iff_mem.1 h)

/-- The exception check changes nothing that a fetch looks at. -/
@[simp] theorem fetchByte_afterCheck (a : Addr) : fetchByte (afterCheck s) a = fetchByte s a := by
  have hr : readByte (afterCheck s) a = readByte s a := readByte_congr rfl rfl a
  simp only [fetchByte, hr, afterCheck_stored, afterCheck_platform]

@[simp] theorem codeBytes_afterCheck (n : Nat) (a : Addr) : codeBytes (afterCheck s) n a = codeBytes s n a := by
  induction n generalizing a with
  | zero => rfl
  | succ n ih => simp only [codeBytes, fetchByte_afterCheck, ih]

/-- An even address is its own even address. -/
theorem evenAddr_eq_self {a : Addr} (h : a.toNat % 2 = 0) : evenAddr a = a := by
  apply BitVec.eq_of_toNat_eq
  rw [evenAddr_toNat]
  omega

/-! ### An instruction step that stops -/

theorem runInstr_undefined {l : List Byte} (hn : l.length ≤ maxLength)
    (hf : ∀ k (h : k < l.length), fetchByte s (evenAddr s.pc + BitVec.ofNat 24 k) = .next l[k])
    (hd : decode l = .undefined) : runInstr s = .refused .undefinedEncoding := by
  rw [runInstr, fetchInstr_undefined hn hf hd, andThen_refused]

section
variable {l : List Byte} (hn : l.length < maxLength)
  (hf : ∀ k (h : k < l.length), fetchByte s (evenAddr s.pc + BitVec.ofNat 24 k) = .next l[k])
  (hd : decode l = .short)
include hn hf hd

theorem runInstr_short_refused {r : Refusal}
    (hr : fetchByte s (evenAddr s.pc + BitVec.ofNat 24 l.length) = .refused r) : runInstr s = .refused r := by
  rw [runInstr, fetchInstr_short hn hf (by simp [hr]) hd, hr, andThen_refused, andThen_refused]

theorem runInstr_short_fault {f : Fault}
    (hr : fetchByte s (evenAddr s.pc + BitVec.ofNat 24 l.length) = .fault f) : runInstr s = .fault f := by
  rw [runInstr, fetchInstr_short hn hf (by simp [hr]) hd, hr, andThen_fault, andThen_fault]

end

/-! ### A step -/

section
variable (hp : s.startPending = false) (hs : s.sleeping = false) (hq : acceptedRequest s = none)
include hp hs hq

/-- A CPU that is awake, with no start sequence to run and no request to enter, runs an instruction (R444). -/
theorem step_eq_runInstr : step s = runInstr (afterCheck s) := by
  simp [step, checkThen, hp, hs, hq]

/-- The instruction that such a step runs is the one that the bytes at PC decode to (R18). -/
theorem step_eq_exec {i : Instr} {n : Nat} (h : decode (codeBytes s maxLength (evenAddr s.pc)) = .ok i n) :
    step s = exec i (advancePc (afterCheck s) n) := by
  rw [step_eq_runInstr hp hs hq, runInstr_eq (by simpa using h)]

end

/-! ### The obligations -/

/-- Settles O49: the three outcomes of the fetch, each by what the bytes at PC decode to. -/
theorem stepRunsDecoded : Obligations.StepRunsDecoded := by
  intro s hp hs hq
  have hstep := step_eq_runInstr hp hs hq
  refine ⟨fun i n h => step_eq_exec hp hs hq h, fun bytes hf => ⟨fun hn hd => ?_, ?_⟩,
    fun a => ⟨fetchByte_stored, fetchByte_not_stored⟩⟩
  · exact hstep.trans (runInstr_undefined hn (by simpa using hf) hd)
  · rintro hn hd _ rfl
    have hf' : ∀ k (h : k < bytes.length), fetchByte (afterCheck s)
        (evenAddr (afterCheck s).pc + BitVec.ofNat 24 k) = .next bytes[k] := by simpa using hf
    have refuses {r} (hr : fetchByte s (evenAddr s.pc + BitVec.ofNat 24 bytes.length) = .refused r) :
        step s = .refused r := hstep.trans (runInstr_short_refused hn hf' hd (by simpa using hr))
    have faults {f} (hr : fetchByte s (evenAddr s.pc + BitVec.ofNat 24 bytes.length) = .fault f) :
        step s = .fault f := hstep.trans (runInstr_short_fault hn hf' hd (by simpa using hr))
    exact ⟨fun hm => refuses (fetchByte_stored hm), fun hm =>
      ⟨fun _ hr => faults ((fetchByte_not_stored hm).trans hr),
        fun _ hr => refuses ((fetchByte_not_stored hm).trans hr)⟩⟩

/-- Settles O48: the bytes that the fetch takes begin with the encoding, and decode to its instruction. -/
theorem encodedInstructionRuns : Obligations.EncodedInstructionRuns := by
  intro s i ign ha hp hs hq hpc hf
  obtain ⟨r, hr⟩ := codeBytes_prefix (encodeWith_length_le ign i) hf
  refine step_eq_exec hp hs hq ?_
  rw [evenAddr_eq_self hpc, hr, decode_encodeWith_append ign ha]

end Sys2Proof.Machine
end

section
/-!
SUPPORT. The general registers and their parts (spec/10_state.md R31, R33), and the obligation about them.
-/

namespace Sys2Proof.Machine

/-- The two parts of a register field that is put together from them (R113, R114). -/
@[simp] theorem erOf_append (x : BitVec 1) (n : ErNum) : erOf (x ++ n) = n := by revert x n; unfold erOf; decide
@[simp] theorem upperHalf_append (x : BitVec 1) (n : ErNum) : upperHalf (x ++ n) = (x == 1#1) := by
  revert x n; unfold upperHalf; decide

variable (s : State)

/-- ERn is En:Rn (R31). -/
theorem readEr_eq_words (n : ErNum) : readEr s n = readR16 s (1#1 ++ n) ++ readR16 s (0#1 ++ n) := by
  simpa [readR16] using (BitVec.extractLsb'_append_extractLsb' (w := 16) (len := 16) (x := readEr s n)).symm

/-- Rn is RnH:RnL (R31). -/
theorem readR16_eq_bytes (n : ErNum) : readR16 s (0#1 ++ n) = readR8 s (0#1 ++ n) ++ readR8 s (1#1 ++ n) := by
  simpa [readR16, readR8] using
    (BitVec.extractLsb'_append_extractLsb'_eq_extractLsb' (len₂ := 8) (x := readEr s n) (Nat.zero_add 8).symm).symm

theorem onlyR8_writeR8 (k : RegNum) (v : Byte) : OnlyR8 s (writeR8 s k v) k v :=
  ⟨by simp [readR8_writeR8], fun j h => by simp [readR8_writeR8, h], upper_writeR8 s k v⟩

theorem onlyR16_writeR16 (k : RegNum) (v : Word) : OnlyR16 s (writeR16 s k v) k v :=
  ⟨by simp [readR16_writeR16], fun j h => by simp [readR16_writeR16, h]⟩

theorem onlyEr_writeEr (n : ErNum) (v : Long) : OnlyEr s (writeEr s n v) n v :=
  ⟨readEr_writeEr_same s n v, fun _ h => readEr_writeEr_other s v h⟩

/-- Settles O59: the parts that the field numbers name, and what each of the three writes changes. -/
theorem registerParts : Obligations.RegisterParts := fun s =>
  ⟨readEr_eq_words s, readR16_eq_bytes s, onlyR8_writeR8 s, onlyR16_writeR16 s, onlyEr_writeEr s⟩

end Sys2Proof.Machine
end

section
/-!
SUPPORT. The lengths that the decoder answers are even (spec/30_encoding.md R111), so that PC stays even past an
instruction.
-/

namespace Sys2Proof

/-- Where the decoder answers an instruction, its length is even. -/
def Decoded.EvenLength : Decoded → Prop
  | .ok _ n => n % 2 = 0
  | .undefined | .short => True

@[simp] theorem ok_evenLength (i : Instr) (n : Nat) : (Decoded.ok i n).EvenLength ↔ n % 2 = 0 := .rfl
@[simp] theorem undefined_evenLength : Decoded.undefined.EvenLength := trivial
@[simp] theorem short_evenLength : Decoded.short.EvenLength := trivial

theorem withWord_evenLength {f : Byte → Byte → List Byte → Decoded} (h : ∀ a b t, (f a b t).EvenLength)
    (l : List Byte) : (withWord l f).EvenLength := by
  unfold withWord; split
  · exact h _ _ _
  · trivial

@[simp] theorem with16_evenLength {f : Word → Decoded} (h : ∀ d, (f d).EvenLength) (l : List Byte) :
    (with16 l f).EvenLength := by
  unfold with16; split
  · exact h _
  · trivial

@[simp] theorem with32_evenLength {f : Long → Decoded} (h : ∀ d, (f d).EvenLength) (l : List Byte) :
    (with32 l f).EvenLength := by
  unfold with32; split
  · exact h _
  · trivial

@[simp] theorem withLow3_evenLength {f : BitVec 3 → Decoded} (h : ∀ e, (f e).EvenLength) (n : Nibble) :
    (withLow3 n f).EvenLength := by
  unfold withLow3; split
  · trivial
  · exact h _

@[simp] theorem ifZero_evenLength {w : Nat} {d : Decoded} (h : d.EvenLength) (n : BitVec w) :
    (ifZero n d).EvenLength := by
  unfold ifZero; split
  · exact h
  · trivial

@[simp] theorem with0x24_evenLength {f : BitVec 24 → Decoded} (h : ∀ d, (f d).EvenLength) (l : List Byte) :
    (with0x24 l f).EvenLength := by
  unfold with0x24; split
  · exact ifZero_evenLength (h _) _
  · trivial

theorem decode0100_evenLength (l : List Byte) : (decode0100 l).EvenLength := by
  refine withWord_evenLength (fun a b t => ?_) l
  dsimp only
  split
  · simp
  · simp
  · simp
  · refine withLow3_evenLength (fun _ => ?_) _
    split <;> simp
  · refine ifZero_evenLength (withWord_evenLength (fun a2 b2 t2 => ?_) t) _
    split
    · refine withLow3_evenLength (fun _ => ?_) _
      split <;> simp
    · simp
  · simp

theorem decode0140_evenLength (l : List Byte) : (decode0140 l).EvenLength := by
  refine withWord_evenLength (fun a b t => ifZero_evenLength ?_ _) l
  split
  · simp
  · simp
  · simp
  · split <;> simp
  · refine withWord_evenLength (fun a2 b2 t2 => ?_) t
    split <;> simp
  · simp

theorem decode01Arith_evenLength (p : Byte) (l : List Byte) : (decode01Arith p l).EvenLength := by
  refine withWord_evenLength (fun a b t => ?_) l
  dsimp only
  split <;> simp

theorem decode0_evenLength (c : Nibble) (b : Byte) (l : List Byte) : (decode0 c b l).EvenLength := by
  unfold decode0
  dsimp only
  repeat' split
  all_goals simp [decode0100_evenLength, decode0140_evenLength, decode01Arith_evenLength]

theorem decode1_evenLength (c : Nibble) (b : Byte) : (decode1 c b).EvenLength := by
  unfold decode1
  dsimp only
  repeat' split
  all_goals simp

theorem decode5_evenLength (c : Nibble) (b : Byte) (l : List Byte) : (decode5 c b l).EvenLength := by
  unfold decode5
  dsimp only
  repeat' split
  all_goals simp

theorem decode6_evenLength (c : Nibble) (b : Byte) (l : List Byte) : (decode6 c b l).EvenLength := by
  unfold decode6
  dsimp only
  repeat' split
  all_goals simp

theorem decodeBitReadInd_evenLength (e : ErNum) (a b : Byte) : (decodeBitReadInd e a b).EvenLength :=
  ifZero_evenLength (by split <;> simp) _

theorem decodeBitWriteInd_evenLength (e : ErNum) (a b : Byte) : (decodeBitWriteInd e a b).EvenLength :=
  ifZero_evenLength (by split <;> simp) _

theorem decodeBitReadAbs_evenLength (c a b : Byte) : (decodeBitReadAbs c a b).EvenLength :=
  ifZero_evenLength (by split <;> simp) _

theorem decodeBitWriteAbs_evenLength (c a b : Byte) : (decodeBitWriteAbs c a b).EvenLength :=
  ifZero_evenLength (by split <;> simp) _

theorem decode78_evenLength (n : ErNum) (l : List Byte) : (decode78 n l).EvenLength := by
  refine withWord_evenLength (fun a b t => ?_) l
  dsimp only
  split <;> simp

theorem decode79_evenLength (x y : Nibble) (l : List Byte) : (decode79 x y l).EvenLength :=
  with16_evenLength (fun _ => by split <;> simp) l

theorem decode7A_evenLength (x y : Nibble) (l : List Byte) : (decode7A x y l).EvenLength :=
  withLow3_evenLength (fun _ => with32_evenLength (fun _ => by split <;> simp) l) y

theorem decode7B_evenLength (b : Byte) (l : List Byte) : (decode7B b l).EvenLength := by
  refine with16_evenLength (fun _ => ?_) l
  split
  · split <;> simp
  · simp

theorem decode7_evenLength (c : Nibble) (b : Byte) (l : List Byte) : (decode7 c b l).EvenLength := by
  unfold decode7
  dsimp only
  have readInd (e : ErNum) : (withWord l fun a c _ => decodeBitReadInd e a c).EvenLength :=
    withWord_evenLength (fun a c _ => decodeBitReadInd_evenLength e a c) l
  have writeInd (e : ErNum) : (withWord l fun a c _ => decodeBitWriteInd e a c).EvenLength :=
    withWord_evenLength (fun a c _ => decodeBitWriteInd_evenLength e a c) l
  split <;> simp [decode78_evenLength, decode79_evenLength, decode7A_evenLength, decode7B_evenLength, readInd, writeInd,
    withWord_evenLength, decodeBitReadAbs_evenLength, decodeBitWriteAbs_evenLength]

theorem decode_evenLength (l : List Byte) : (decode l).EvenLength := by
  refine withWord_evenLength (fun a b t => ?_) l
  dsimp only
  split <;> simp [decode0_evenLength, decode1_evenLength, decode5_evenLength, decode6_evenLength, decode7_evenLength]

/-- The length of a decoded instruction is even (R111). -/
theorem decode_even {l : List Byte} {i : Instr} {n : Nat} (h : decode l = .ok i n) : n % 2 = 0 := by
  have e := decode_evenLength l
  rwa [h] at e

end Sys2Proof
end

section
/-!
SUPPORT. What every step keeps: the invariant, the platform, every byte outside `ram` and the record of stores
(`Kept`); and what most instructions keep besides: the sleep and the bits I, UI, U of CCR (`Ordinary`). Both are
preorders, proved once for each shared operation; `exec_effect` then says once, instruction by instruction, what `exec` can do.
-/

namespace Sys2Proof.Machine

variable {s t u : State}

/-! ### What holds of the next state -/

/-- If this part of a step gives a value, `P` holds of it. -/
def Gives {α : Type} (P : α → Prop) (r : Res α) : Prop := ∀ a, r = .next a → P a

theorem Gives.next {α : Type} {P : α → Prop} {a : α} (h : P a) : Gives P (.next a) := by
  rintro _ ⟨⟩; exact h

theorem Gives.refused {α : Type} {P : α → Prop} (e : Refusal) : Gives P (.refused e : Res α) := by
  rintro _ ⟨⟩

theorem Gives.mono {α : Type} {P Q : α → Prop} {r : Res α} (h : Gives P r) (hpq : ∀ a, P a → Q a) : Gives Q r :=
  fun a ha => hpq a (h a ha)

/-- The second part of a sequence starts from what the first part gives. -/
theorem Gives.bind {α β : Type} {P : α → Prop} {Q : β → Prop} {r : Res α} {f : α → Res β} (h : Gives P r)
    (k : ∀ a, P a → Gives Q (f a)) : Gives Q (andThen r f) := by
  intro b hb
  obtain ⟨a, ha, hf⟩ := andThen_eq_next.1 hb
  exact k a (h a ha) b hf

/-- After a read, whatever it gave. -/
theorem Gives.read {α β : Type} {Q : β → Prop} {r : Res α} {f : α → Res β} (k : ∀ a, Gives Q (f a)) :
    Gives Q (andThen r f) :=
  Gives.bind (P := fun _ => True) (fun _ _ => trivial) fun a _ => k a

/-- A form that is refused for the registers it names (R187, R380). -/
theorem Gives.unlessRefused {α : Type} {P : α → Prop} {c : Prop} [Decidable c] {e : Refusal} {r : Res α}
    (h : Gives P r) : Gives P (if c then .refused e else r) := by
  split
  · exact .refused e
  · exact h

/-! ### The flags that results write -/

/-- The flags H, N, Z, V, C, which the results of instructions write; I, UI and U are not among them
(spec/10_state.md R51, R52). -/
def CcrBit.isResult : CcrBit → Bool
  | .h | .n | .z | .v | .c => true
  | .i | .ui | .u => false

/-- I, UI and U are the same in two CCR values. -/
def SameControl (a b : Byte) : Prop := ∀ f : CcrBit, f.isResult = false → ccrGet b f = ccrGet a f

theorem SameControl.refl (a : Byte) : SameControl a a := fun _ _ => rfl

theorem SameControl.trans {a b c : Byte} (h : SameControl a b) (k : SameControl b c) : SameControl a c :=
  fun f hf => (k f hf).trans (h f hf)

theorem SameControl.put {a b : Byte} (h : SameControl a b) {f : CcrBit} (v : Bool) (hf : f.isResult = true) :
    SameControl a (ccrPut b f v) := by
  intro g hg
  have hne : g ≠ f := by rintro rfl; simp [hf] at hg
  simp [hne, h g hg]

variable {w : Nat} (ccr : Byte)

theorem ccrPutNZ_sameControl (v : BitVec w) : SameControl ccr (ccrPutNZ ccr v) :=
  ((SameControl.refl ccr).put _ rfl).put _ rfl

theorem ccrPutNZV0_sameControl (v : BitVec w) : SameControl ccr (ccrPutNZV0 ccr v) :=
  (ccrPutNZ_sameControl ccr v).put _ rfl

theorem ccrPutArith_sameControl (r : Arith w) : SameControl ccr (ccrPutArith ccr r) :=
  (((((SameControl.refl ccr).put _ rfl).put _ rfl).put _ rfl).put _ rfl).put _ rfl

theorem ccrPutArithX_sameControl (r : Arith w) : SameControl ccr (ccrPutArithX ccr r) :=
  ccrPutArith_sameControl ccr _

theorem ccrPutNZV_sameControl (r : Arith w) : SameControl ccr (ccrPutNZV ccr r) :=
  (((SameControl.refl ccr).put _ rfl).put _ rfl).put _ rfl

theorem ccrPutShift_sameControl (r : Shifted w) : SameControl ccr (ccrPutShift ccr r) :=
  ((ccrPutNZ_sameControl ccr r.result).put _ rfl).put _ rfl

theorem ccrPutSign_sameControl (p : Int) : SameControl ccr (ccrPutSign ccr p) :=
  ((SameControl.refl ccr).put _ rfl).put _ rfl

theorem ccrPutDivSigned_sameControl (s : State) (n : Option Bool) (d : BitVec w) :
    SameControl ccr (ccrPutDivSigned ccr s n d) :=
  ((SameControl.refl ccr).put _ rfl).put _ rfl

/-! ### What every step keeps -/

/-- The invariant and the platform are kept, every byte outside `ram` holds what it held, and the record of stored
addresses only grows. -/
structure Kept (s t : State) : Prop where
  inv : s.Inv → t.Inv
  platform : t.platform = s.platform
  others : ∀ b, classOf s.platform b ≠ .ram → memGet t.mem b = memGet s.mem b
  stored : ∀ b ∈ s.stored, b ∈ t.stored

theorem Kept.trans (h : Kept s t) (k : Kept t u) : Kept s u where
  inv hi := k.inv (h.inv hi)
  platform := k.platform.trans h.platform
  others b hb := (k.others b (h.platform ▸ hb)).trans (h.others b hb)
  stored b hb := k.stored b (h.stored b hb)

/-- Memory, its record and the platform are as before, and PC is even if it was. -/
theorem Kept.of_sameMemory (hm : t.mem = s.mem) (hs : t.stored = s.stored) (hp : t.platform = s.platform)
    (hpc : s.pc.getLsbD 0 = false → t.pc.getLsbD 0 = false) : Kept s t where
  inv hi := ⟨hm ▸ hi.memory, hs ▸ hi.storedRising, hm ▸ hs ▸ hp ▸ hi.storedHeld, hpc hi.pcEven⟩
  platform := hp
  others b _ := by rw [hm]
  stored b hb := hs ▸ hb

/-- As `Kept`, and the sleep and the bits I, UI, U of CCR are as before. -/
structure Ordinary (s t : State) : Prop extends Kept s t where
  sleeping : t.sleeping = s.sleeping
  control : SameControl s.ccr t.ccr

theorem Ordinary.trans (h : Ordinary s t) (k : Ordinary t u) : Ordinary s u where
  toKept := h.toKept.trans k.toKept
  sleeping := k.sleeping.trans h.sleeping
  control := h.control.trans k.control

/-- An operation from a state that differs from `s` in an ordinary way. -/
theorem Ordinary.thenGives {r : Res State} (h : Ordinary s u) (k : Gives (Ordinary u) r) : Gives (Ordinary s) r :=
  k.mono fun _ hk => h.trans hk

/-- Only general registers, the flags of results and the counter of free values differ. -/
theorem Ordinary.of_data (hc : SameControl s.ccr t.ccr) (hm : t.mem = s.mem := by rfl)
    (hs : t.stored = s.stored := by rfl) (hp : t.platform = s.platform := by rfl) (hpc : t.pc = s.pc := by rfl)
    (hsl : t.sleeping = s.sleeping := by rfl) : Ordinary s t where
  toKept := .of_sameMemory hm hs hp fun h => hpc ▸ h
  sleeping := hsl
  control := hc

/-! ### Registers, flags and free values -/

section
variable (s)

theorem ordinary_refl : Ordinary s s := .of_data (.refl _)
theorem writeEr_ordinary (n : ErNum) (v : Long) : Ordinary s (writeEr s n v) := .of_data (.refl _)
theorem writeR8_ordinary (k : RegNum) (v : Byte) : Ordinary s (writeR8 s k v) := .of_data (.refl _)
theorem writeR16_ordinary (k : RegNum) (v : Word) : Ordinary s (writeR16 s k v) := .of_data (.refl _)
theorem bumpEr_ordinary (n : ErNum) (k : Long) : Ordinary s (bumpEr s n k) := .of_data (.refl _)
theorem dropEr_ordinary (n : ErNum) (k : Long) : Ordinary s (dropEr s n k) := .of_data (.refl _)
theorem drawn_ordinary (n : Nat) : Ordinary s (s.drawn n) := .of_data (.refl _)

theorem setCcr_ordinary {c : Byte} (h : SameControl s.ccr c) : Ordinary s (s.setCcr c) := .of_data h

theorem resultR8_ordinary (k : RegNum) (v : Byte) : Ordinary s (resultR8 s k v) :=
  .of_data (ccrPutNZV0_sameControl _ v)
theorem resultR16_ordinary (k : RegNum) (v : Word) : Ordinary s (resultR16 s k v) :=
  .of_data (ccrPutNZV0_sameControl _ v)
theorem resultEr_ordinary (n : ErNum) (v : Long) : Ordinary s (resultEr s n v) :=
  .of_data (ccrPutNZV0_sameControl _ v)
theorem arithR8_ordinary (k : RegNum) (r : Arith 8) : Ordinary s (arithR8 s k r) :=
  .of_data (ccrPutArith_sameControl _ r)
theorem arithR16_ordinary (k : RegNum) (r : Arith 16) : Ordinary s (arithR16 s k r) :=
  .of_data (ccrPutArith_sameControl _ r)
theorem arithEr_ordinary (n : ErNum) (r : Arith 32) : Ordinary s (arithEr s n r) :=
  .of_data (ccrPutArith_sameControl _ r)
theorem arithXR8_ordinary (k : RegNum) (r : Arith 8) : Ordinary s (arithXR8 s k r) :=
  .of_data (ccrPutArithX_sameControl _ r)
theorem countR8_ordinary (k : RegNum) (r : Arith 8) : Ordinary s (countR8 s k r) :=
  .of_data (ccrPutNZV_sameControl _ r)
theorem countR16_ordinary (k : RegNum) (r : Arith 16) : Ordinary s (countR16 s k r) :=
  .of_data (ccrPutNZV_sameControl _ r)
theorem countEr_ordinary (n : ErNum) (r : Arith 32) : Ordinary s (countEr s n r) :=
  .of_data (ccrPutNZV_sameControl _ r)
theorem compareFlags_ordinary (r : Arith w) : Ordinary s (compareFlags s r) :=
  .of_data (ccrPutArith_sameControl _ r)
theorem shiftR8_ordinary (k : RegNum) (r : Shifted 8) : Ordinary s (shiftR8 s k r) :=
  .of_data (ccrPutShift_sameControl _ r)
theorem shiftR16_ordinary (k : RegNum) (r : Shifted 16) : Ordinary s (shiftR16 s k r) :=
  .of_data (ccrPutShift_sameControl _ r)
theorem shiftEr_ordinary (n : ErNum) (r : Shifted 32) : Ordinary s (shiftEr s n r) :=
  .of_data (ccrPutShift_sameControl _ r)
theorem putC_ordinary (v : Bool) : Ordinary s (putC s v) := .of_data ((SameControl.refl _).put v rfl)
theorem putZ_ordinary (v : Bool) : Ordinary s (putZ s v) := .of_data ((SameControl.refl _).put v rfl)
theorem productR16_ordinary (k : RegNum) (a b : Byte) : Ordinary s (productR16 s k a b) :=
  .of_data (ccrPutSign_sameControl _ _)
theorem productEr_ordinary (n : ErNum) (a b : Word) : Ordinary s (productEr s n a b) :=
  .of_data (ccrPutSign_sameControl _ _)

theorem afterFree_ordinary {α : Type} (o : Option α) : Ordinary s (afterFree s o) := by
  cases o with
  | some v => exact ordinary_refl s
  | none => exact drawn_ordinary s 1

theorem quotientR16_ordinary (k : RegNum) (o : Option Word) {c : Byte} (h : SameControl s.ccr c) :
    Ordinary s (quotientR16 s k o c) :=
  ((writeR16_ordinary s k _).trans (setCcr_ordinary _ h)).trans (afterFree_ordinary _ o)

theorem quotientEr_ordinary (n : ErNum) (o : Option Long) {c : Byte} (h : SameControl s.ccr c) :
    Ordinary s (quotientEr s n o c) :=
  ((writeEr_ordinary s n _).trans (setCcr_ordinary _ h)).trans (afterFree_ordinary _ o)

theorem signedQuotientR16_ordinary (k : RegNum) (d : Byte) : Ordinary s (signedQuotientR16 s k d) :=
  (quotientR16_ordinary s k _ (ccrPutDivSigned_sameControl _ _ _ d)).trans (afterFree_ordinary _ _)

theorem signedQuotientEr_ordinary (n : ErNum) (d : Word) : Ordinary s (signedQuotientEr s n d) :=
  (quotientEr_ordinary s n _ (ccrPutDivSigned_sameControl _ _ _ d)).trans (afterFree_ordinary _ _)

theorem adjustR8_ordinary (k : RegNum) (row : Option BcdRow) (writesC : Bool) :
    Ordinary s (adjustR8 s k row writesC) := by
  cases row with
  | some r =>
    have nz := ccrPutNZ_sameControl s.ccr (readR8 s k + r.added)
    cases writesC with
    | false => exact .of_data ((nz.put _ rfl).put _ rfl)
    | true => exact .of_data (((nz.put _ rfl).put _ rfl).put _ rfl)
  | none =>
    have nz {n z : Bool} : SameControl s.ccr (ccrPut (ccrPut s.ccr .n n) .z z) :=
      ((SameControl.refl _).put n rfl).put z rfl
    cases writesC with
    | false => exact .of_data ((nz.put _ rfl).put _ rfl)
    | true => exact .of_data (((nz.put _ rfl).put _ rfl).put _ rfl)

end

/-! ### Memory and PC -/

theorem writeByte_ordinary (s : State) (a : Addr) (v : Byte) : Gives (Ordinary s) (writeByte s a v) := by
  intro t h
  have m := writeByte_memoryOnly h
  exact {
    inv := fun hi => ⟨m.wf hi.memory, m.rising hi.storedRising, m.held hi.storedHeld, m.pc ▸ hi.pcEven⟩
    platform := m.platform
    others := m.others
    stored := fun b hb => by
      obtain ⟨-, rfl⟩ := writeByte_eq_next.1 h
      exact (mem_addAddress _ _ _).2 (.inr hb)
    sleeping := m.sleeping
    control := m.ccr ▸ .refl _ }

theorem writeWord_ordinary (s : State) (a : Addr) (v : Word) : Gives (Ordinary s) (writeWord s a v) :=
  (writeByte_ordinary s _ _).bind fun u hu => hu.thenGives (writeByte_ordinary u _ _)

theorem writeLong_ordinary (s : State) (a : Addr) (v : Long) : Gives (Ordinary s) (writeLong s a v) :=
  (writeWord_ordinary s _ _).bind fun u hu => hu.thenGives (writeWord_ordinary u _ _)

theorem storeByte_ordinary (s : State) (a : Addr) (v : Byte) : Gives (Ordinary s) (storeByte s a v) :=
  (writeByte_ordinary s a v).bind fun u hu => .next (hu.trans (setCcr_ordinary u (ccrPutNZV0_sameControl _ v)))

theorem storeWord_ordinary (s : State) (a : Addr) (v : Word) : Gives (Ordinary s) (storeWord s a v) :=
  (writeWord_ordinary s a v).bind fun u hu => .next (hu.trans (setCcr_ordinary u (ccrPutNZV0_sameControl _ v)))

theorem storeLong_ordinary (s : State) (a : Addr) (v : Long) : Gives (Ordinary s) (storeLong s a v) :=
  (writeLong_ordinary s a v).bind fun u hu => .next (hu.trans (setCcr_ordinary u (ccrPutNZV0_sameControl _ v)))

theorem saveCcr_ordinary (s : State) (a : Addr) : Gives (Ordinary s) (saveCcr s a) :=
  (drawn_ordinary s 1).thenGives (writeWord_ordinary _ a _)

theorem changeBit_ordinary (s : State) (a : Addr) (n : BitVec 3) (f : Bool → Bool) :
    Gives (Ordinary s) (changeBit s a n f) :=
  .read fun _ => writeByte_ordinary s a _

/-- PC is moved to an even address. -/
theorem setPc_ordinary (s : State) {a : Addr} (h : a.getLsbD 0 = false) : Ordinary s (s.setPc a) where
  toKept := .of_sameMemory rfl rfl rfl fun _ => h
  sleeping := rfl
  control := .refl _

theorem jumpTo_ordinary (s : State) (a : Addr) : Gives (Ordinary s) (jumpTo s a) := by
  intro t h
  obtain ⟨he, rfl⟩ := jumpTo_eq_next.1 h
  exact setPc_ordinary s he

theorem branchIf_ordinary (s : State) (k : Cond) (d : BranchDisp) : Gives (Ordinary s) (branchIf s k d) := by
  intro t h
  obtain ⟨-, he, rfl⟩ | ⟨-, rfl⟩ := branchIf_eq_next.1 h
  · exact setPc_ordinary s he
  · exact ordinary_refl _

theorem pushReturn_ordinary (s : State) : Gives (Ordinary s) (pushReturn s) := by
  intro t h
  obtain ⟨-, hw⟩ | ⟨-, hw⟩ := pushReturn_eq_next.1 h
  · exact ((dropEr_ordinary s spNum 4#32).trans (drawn_ordinary _ 1)).thenGives (writeLong_ordinary _ _ _) t hw
  · exact (dropEr_ordinary s spNum 2#32).thenGives (writeWord_ordinary _ _ _) t hw

/-- A subroutine call: the return address is pushed, then control goes to the target. -/
theorem pushReturn_jumpTo_ordinary (s : State) (a : Addr) :
    Gives (Ordinary s) (andThen (pushReturn s) fun u => jumpTo u a) :=
  (pushReturn_ordinary s).bind fun u hu => hu.thenGives (jumpTo_ordinary u a)

theorem popReturn_ordinary (s : State) : Gives (Ordinary s) (popReturn s) := by
  intro t h
  obtain ⟨-, w, -, hj⟩ | ⟨-, w, -, hj⟩ := popReturn_eq_next.1 h
  · exact (bumpEr_ordinary s spNum 4#32).thenGives (jumpTo_ordinary _ _) t hj
  · exact (bumpEr_ordinary s spNum 2#32).thenGives (jumpTo_ordinary _ _) t hj

theorem moveBlock_ordinary (s : State) (n : Nat) (put : Long → Nat → Long) :
    Gives (Ordinary s) (moveBlock s n put) := by
  induction n generalizing s with
  | zero => exact .next (ordinary_refl s)
  | succ n ih =>
    refine .read fun b => (writeByte_ordinary s _ b).bind fun u hu => ?_
    have hb := (bumpEr_ordinary u 5#3 1#32).trans (bumpEr_ordinary _ 6#3 1#32)
    exact ((hu.trans hb).trans (writeEr_ordinary _ 4#3 _)).thenGives (ih _)

/-! ### Exceptions -/

theorem afterFrame_ordinary (s : State) : Ordinary s (afterFrame s) := by
  unfold afterFrame
  split
  · exact ordinary_refl s
  · exact drawn_ordinary s 1

/-- Exception entry wakes the CPU and sets I; otherwise it is as ordinary as an instruction (R445). -/
theorem exceptionEntry_ordinary {v : VectorNum} (h : exceptionEntry v s = .next t) :
    ∃ u, Ordinary (s.setSleeping false) u ∧ Ordinary (u.setCcr (ccrPut u.ccr .i true)) t := by
  obtain ⟨u, target, hw, -, he, rfl⟩ := exceptionEntry_eq_next.1 h
  refine ⟨u, ?_, setPc_ordinary _ he⟩
  exact ((dropEr_ordinary _ spNum 4#32).trans (afterFrame_ordinary _)).thenGives (writeLong_ordinary _ _ _) u hw

/-- No change of CCR touches what every step keeps. -/
theorem setCcr_kept (s : State) (c : Byte) : Kept s (s.setCcr c) := .of_sameMemory rfl rfl rfl id
theorem setSleeping_kept (s : State) (b : Bool) : Kept s (s.setSleeping b) := .of_sameMemory rfl rfl rfl id
theorem setStartPending_kept (s : State) (b : Bool) : Kept s (s.setStartPending b) := .of_sameMemory rfl rfl rfl id
theorem afterCheck_kept (s : State) : Kept s (afterCheck s) := .of_sameMemory rfl rfl rfl id

theorem exceptionEntry_kept {v : VectorNum} (h : exceptionEntry v s = .next t) : Kept s t := by
  obtain ⟨u, hu, ht⟩ := exceptionEntry_ordinary h
  exact (((setSleeping_kept s false).trans hu.toKept).trans (setCcr_kept u _)).trans ht.toKept

/-- Exception entry leaves UI and U as they were and I set (R52, R445). -/
theorem exceptionEntry_control {v : VectorNum} (h : exceptionEntry v s = .next t) :
    ccrGet t.ccr .ui = ccrGet s.ccr .ui ∧ ccrGet t.ccr .u = ccrGet s.ccr .u ∧ ccrGet t.ccr .i = true := by
  obtain ⟨u, hu, ht⟩ := exceptionEntry_ordinary h
  have keeps {f : CcrBit} (hf : f.isResult = false) (hi : f ≠ .i) : ccrGet t.ccr f = ccrGet s.ccr f := by
    rw [ht.control f hf, setCcr_ccr, ccrGet_ccrPut, if_neg hi, hu.control f hf, setSleeping_ccr]
  refine ⟨keeps rfl (by decide), keeps rfl (by decide), ?_⟩
  rw [ht.control .i rfl, setCcr_ccr, ccrGet_ccrPut, if_pos rfl]

/-- Exception entry ends the sleep (R445). -/
theorem exceptionEntry_sleeping {v : VectorNum} (h : exceptionEntry v s = .next t) : t.sleeping = false := by
  obtain ⟨u, hu, ht⟩ := exceptionEntry_ordinary h
  rw [ht.sleeping, setCcr_sleeping, hu.sleeping, setSleeping_sleeping]

/-! ### Instructions -/

/-- Everything an instruction can do: an ordinary change, a load of CCR as a whole beside an ordinary change, the sleep,
or exception entry. -/
inductive Effect (i : Instr) (s t : State) : Prop
  | ordinary (h : Ordinary s t)
  | loadsCcr (hi : loadsCcr i = true) (u : State) (c : Byte) (h : Ordinary s u) (ht : t = u.setCcr c)
  | sleeps (hi : i = .sleep) (ht : t = s.setSleeping true)
  | traps (k : BitVec 2) (hi : i = .trapa k) (h : exceptionEntry (trapVector k) s = .next t)

theorem Gives.ordinary {i : Instr} {r : Res State} (h : Gives (Ordinary s) r) : Gives (Effect i s) r :=
  h.mono fun _ => .ordinary

/-- A result that only ordinary changes lead to. -/
theorem Ordinary.gives {i : Instr} (h : Ordinary s t) : Gives (Effect i s) (.next t) := .next (.ordinary h)

/-- A read, then a result that only ordinary changes lead to. -/
theorem Gives.resultAfterRead {α : Type} {i : Instr} {r : Res α} {f : α → State} (h : ∀ a, Ordinary s (f a)) :
    Gives (Effect i s) (andThen r fun a => .next (f a)) := .read fun a => (h a).gives

/-- CCR is loaded from the word that a read gives, beside an ordinary change. -/
theorem loadCcr_effect {i : Instr} (hi : loadsCcr i = true) (a : Addr) (h : Ordinary s u) :
    Gives (Effect i s) (loadCcr s a u) := by
  intro t ht
  obtain ⟨w, -, e⟩ := loadCcr_eq_next.1 ht
  exact .loadsCcr hi u _ h e

theorem setCcr_effect {i : Instr} (hi : loadsCcr i = true) (c : Byte) : Gives (Effect i s) (.next (s.setCcr c)) :=
  .next (.loadsCcr hi s c (ordinary_refl s) rfl)

/-- RTE loads CCR from the frame, beside SP and PC (R390). -/
theorem exceptionReturn_effect : Gives (Effect .rte s) (exceptionReturn s) := by
  intro t h
  obtain ⟨w, target, -, -, he, rfl⟩ := exceptionReturn_eq_next.1 h
  exact .loadsCcr rfl ((bumpEr s spNum 4#32).setPc target) _
    ((bumpEr_ordinary s spNum 4#32).trans (setPc_ordinary _ he)) rfl

/-- What an instruction does when it completes. The cases stand by the shape of their meaning. -/
theorem exec_effect (i : Instr) (s : State) : Gives (Effect i s) (exec i s) := by
  cases i with
  | movBImm | movBReg | andBImm | andBReg | orBImm | orBReg | xorBImm | xorBReg | notB =>
    exact (resultR8_ordinary s _ _).gives
  | movWImm | movWReg | extuW | extsW | andWImm | andWReg | orWImm | orWReg | xorWImm | xorWReg | notW =>
    exact (resultR16_ordinary s _ _).gives
  | movLImm | movLReg | extuL | extsL | andLImm | andLReg | orLImm | orLReg | xorLImm | xorLReg | notL =>
    exact (resultEr_ordinary s _ _).gives
  | movBLdInd | movBLdDisp16 | movBLdDisp24 | movBLdAbs8 | movBLdAbs16 | movBLdAbs24 =>
    exact .resultAfterRead fun v => resultR8_ordinary s _ v
  | movWLdInd | movWLdDisp16 | movWLdDisp24 | movWLdAbs16 | movWLdAbs24 =>
    exact .resultAfterRead fun v => resultR16_ordinary s _ v
  | movLLdInd | movLLdDisp16 | movLLdDisp24 | movLLdAbs16 | movLLdAbs24 =>
    exact .resultAfterRead fun v => resultEr_ordinary s _ v
  | movBLdInc =>
    exact .unlessRefused (.resultAfterRead fun v => (bumpEr_ordinary s _ _).trans (resultR8_ordinary _ _ v))
  | movWLdInc | popW =>
    exact .unlessRefused (.resultAfterRead fun v => (bumpEr_ordinary s _ _).trans (resultR16_ordinary _ _ v))
  | movLLdInc | popL =>
    exact .unlessRefused (.resultAfterRead fun v => (bumpEr_ordinary s _ _).trans (resultEr_ordinary _ _ v))
  | movBStInd | movBStDisp16 | movBStDisp24 | movBStAbs8 | movBStAbs16 | movBStAbs24 =>
    exact (storeByte_ordinary s _ _).ordinary
  | movWStInd | movWStDisp16 | movWStDisp24 | movWStAbs16 | movWStAbs24 => exact (storeWord_ordinary s _ _).ordinary
  | movLStInd | movLStDisp16 | movLStDisp24 | movLStAbs16 | movLStAbs24 => exact (storeLong_ordinary s _ _).ordinary
  | movBStDec => exact .unlessRefused ((dropEr_ordinary s _ _).thenGives (storeByte_ordinary _ _ _)).ordinary
  | movWStDec | pushW => exact .unlessRefused ((dropEr_ordinary s _ _).thenGives (storeWord_ordinary _ _ _)).ordinary
  | movLStDec | pushL => exact .unlessRefused ((dropEr_ordinary s _ _).thenGives (storeLong_ordinary _ _ _)).ordinary
  | addBImm | addBReg | subBReg | negB => exact (arithR8_ordinary s _ _).gives
  | addWImm | addWReg | subWImm | subWReg | negW => exact (arithR16_ordinary s _ _).gives
  | addLImm | addLReg | subLImm | subLReg | negL => exact (arithEr_ordinary s _ _).gives
  | addxBImm | addxBReg | subxBImm | subxBReg => exact (arithXR8_ordinary s _ _).gives
  | incB | decB => exact (countR8_ordinary s _ _).gives
  | incW1 | incW2 | decW1 | decW2 => exact (countR16_ordinary s _ _).gives
  | incL1 | incL2 | decL1 | decL2 => exact (countEr_ordinary s _ _).gives
  | adds1 | adds2 | adds4 | subs1 | subs2 | subs4 | mulxuW => exact (writeEr_ordinary s _ _).gives
  | mulxuB => exact (writeR16_ordinary s _ _).gives
  | daa | das => exact (adjustR8_ordinary s _ _ _).gives
  | divxuB => exact (quotientR16_ordinary s _ _ (ccrPutNZ_sameControl _ _)).gives
  | divxuW => exact (quotientEr_ordinary s _ _ (ccrPutNZ_sameControl _ _)).gives
  | mulxsB => exact (productR16_ordinary s _ _ _).gives
  | mulxsW => exact (productEr_ordinary s _ _ _).gives
  | divxsB => exact (signedQuotientR16_ordinary s _ _).gives
  | divxsW => exact (signedQuotientEr_ordinary s _ _).gives
  | cmpBImm | cmpBReg | cmpWImm | cmpWReg | cmpLImm | cmpLReg => exact (compareFlags_ordinary s _).gives
  | shalB | sharB | shllB | shlrB | rotlB | rotrB | rotxlB | rotxrB => exact (shiftR8_ordinary s _ _).gives
  | shalW | sharW | shllW | shlrW | rotlW | rotrW | rotxlW | rotxrW => exact (shiftR16_ordinary s _ _).gives
  | shalL | sharL | shllL | shlrL | rotlL | rotrL | rotxlL | rotxrL => exact (shiftEr_ordinary s _ _).gives
  | bsetImmReg | bsetRnReg | bclrImmReg | bclrRnReg | bnotImmReg | bnotRnReg | bstReg | bistReg | stcBReg =>
    exact (writeR8_ordinary s _ _).gives
  | bsetImmInd | bsetImmAbs8 | bsetRnInd | bsetRnAbs8 => exact (changeBit_ordinary s _ _ fun _ => true).ordinary
  | bclrImmInd | bclrImmAbs8 | bclrRnInd | bclrRnAbs8 => exact (changeBit_ordinary s _ _ fun _ => false).ordinary
  | bnotImmInd | bnotImmAbs8 | bnotRnInd | bnotRnAbs8 => exact (changeBit_ordinary s _ _ fun b => !b).ordinary
  | bstInd | bstAbs8 => exact (changeBit_ordinary s _ _ fun _ => ccrGet s.ccr .c).ordinary
  | bistInd | bistAbs8 => exact (changeBit_ordinary s _ _ fun _ => !ccrGet s.ccr .c).ordinary
  | btstImmReg | btstRnReg => exact (putZ_ordinary s _).gives
  | btstImmInd | btstImmAbs8 | btstRnInd | btstRnAbs8 => exact .resultAfterRead fun _ => putZ_ordinary s _
  | bandReg | biandReg | borReg | biorReg | bxorReg | bixorReg | bldReg | bildReg => exact (putC_ordinary s _).gives
  | bandInd | bandAbs8 | biandInd | biandAbs8 | borInd | borAbs8 | biorInd | biorAbs8 | bxorInd | bxorAbs8
  | bixorInd | bixorAbs8 | bldInd | bldAbs8 | bildInd | bildAbs8 =>
    exact .resultAfterRead fun _ => putC_ordinary s _
  | bra d => exact (branchIf_ordinary s .bra d).ordinary
  | brn d => exact (branchIf_ordinary s .brn d).ordinary
  | bhi | bls | bcc | bcs | bne | beq | bvc | bvs | bpl | bmi | bge | blt | bgt | ble =>
    exact (branchIf_ordinary s _ _).ordinary
  | jmpInd | jmpAbs24 => exact (jumpTo_ordinary s _).ordinary
  | jmpMemInd => exact .read fun a => (jumpTo_ordinary s a).ordinary
  | bsr | jsrAbs24 => exact (pushReturn_jumpTo_ordinary s _).ordinary
  | jsrInd => exact .unlessRefused (pushReturn_jumpTo_ordinary s _).ordinary
  | jsrMemInd => exact .read fun a => (pushReturn_jumpTo_ordinary s a).ordinary
  | rts => exact (popReturn_ordinary s).ordinary
  | ldcBImm | ldcBReg | andc | orc | xorc => exact setCcr_effect rfl _
  | ldcWInd | ldcWDisp16 | ldcWDisp24 | ldcWAbs16 | ldcWAbs24 => exact loadCcr_effect rfl _ (ordinary_refl s)
  | ldcWInc => exact loadCcr_effect rfl _ (bumpEr_ordinary s _ _)
  | stcWInd | stcWDisp16 | stcWDisp24 | stcWAbs16 | stcWAbs24 => exact (saveCcr_ordinary s _).ordinary
  | stcWDec => exact ((dropEr_ordinary s _ _).thenGives (saveCcr_ordinary _ _)).ordinary
  | trapa k => exact fun _ h => .traps k rfl h
  | rte => exact exceptionReturn_effect
  | sleep => exact .next (.sleeps rfl rfl)
  | nop => exact (ordinary_refl s).gives
  | eepmovB | eepmovW => exact (moveBlock_ordinary s _ _).ordinary

theorem Effect.kept {i : Instr} (h : Effect i s t) : Kept s t := by
  cases h with
  | ordinary h => exact h.toKept
  | loadsCcr _ u c h ht => exact ht ▸ h.toKept.trans (setCcr_kept u c)
  | sleeps _ ht => exact ht ▸ setSleeping_kept s true
  | traps k _ h => exact exceptionEntry_kept h

/-! ### A step -/

/-- PC stays even past an instruction, whose length is even (R111). -/
theorem advancePc_kept (s : State) {n : Nat} (hn : n % 2 = 0) : Kept s (advancePc s n) :=
  .of_sameMemory rfl rfl rfl fun h => by
    rw [advancePc_pc, BitVec.getLsbD_add (by decide), BitVec.getLsbD_ofNat, h, Nat.testBit_zero, hn]
    simp

theorem startSequence_kept (h : startSequence s = .next t) : Kept s t := by
  obtain ⟨target, -, hj⟩ := andThen_eq_next.1 h
  exact ((setStartPending_kept s false).trans (setCcr_kept _ _)).trans (jumpTo_ordinary _ target t hj).toKept

theorem runInstr_kept (h : runInstr s = .next t) : Kept s t := by
  obtain ⟨⟨i, n⟩, hf, he⟩ := andThen_eq_next.1 h
  have hn : n % 2 = 0 := decode_even (fetchInstr_eq_next.1 hf)
  exact (advancePc_kept s hn).trans (exec_effect i _ t he).kept

/-- Every step keeps what `Kept` says: the start sequence, exception entry, a sleeping step and an instruction do. -/
theorem step_kept (h : step s = .next t) : Kept s t := by
  unfold step at h
  split at h
  · exact startSequence_kept h
  · obtain ⟨r, -, he⟩ | ⟨-, -, rfl⟩ | ⟨-, -, hr⟩ := checkThen_eq_next.1 h
    · exact (afterCheck_kept s).trans (exceptionEntry_kept he)
    · exact afterCheck_kept s
    · exact (afterCheck_kept s).trans (runInstr_kept hr)

/-! ### The obligations -/

/-- Settles O50: the invariant is a part of what every step keeps. -/
theorem stepKeepsInvariant : Obligations.StepKeepsInvariant :=
  fun _ _ hi h => (step_kept h).inv hi

/-- Settles O53: the other parts of what every step keeps. -/
theorem onlyRamChanges : Obligations.OnlyRamChanges :=
  fun _ _ h => ⟨(step_kept h).platform, (step_kept h).others, (step_kept h).stored⟩

/-- Settles O54: by what an instruction can do, and what exception entry does to CCR. -/
theorem userBitsWritten : Obligations.UserBitsWritten := by
  refine ⟨fun i s t hl h => ?_, fun s t v h => exceptionEntry_control h⟩
  have trap : ∀ k, i = .trapa k → ccrGet t.ccr .i = true := by
    rintro k rfl
    obtain ⟨-, -, hi⟩ := exceptionEntry_control (v := trapVector k) h
    exact hi
  cases exec_effect i s t h with
  | ordinary ho => exact ⟨ho.control .ui rfl, ho.control .u rfl, .inl (ho.control .i rfl), trap⟩
  | loadsCcr hi => simp [hl] at hi
  | sleeps _ ht => subst ht; exact ⟨rfl, rfl, .inl rfl, trap⟩
  | traps k hi he =>
    obtain ⟨hui, hu, -⟩ := exceptionEntry_control he
    exact ⟨hui, hu, .inr ⟨k, hi⟩, trap⟩

/-- Settles O55: SLEEP and TRAPA by their meanings, the others by what an instruction can do. -/
theorem sleepBit : Obligations.SleepBit := by
  refine ⟨fun i s t h => ⟨?_, ?_, fun hs ht => ?_⟩, fun s hp hs hq => ?_⟩
  · rintro rfl
    obtain rfl := Host.Outcome.next.inj h
    rfl
  · rintro ⟨k, rfl⟩
    exact exceptionEntry_sleeping (v := trapVector k) h
  · cases exec_effect i s t h with
    | ordinary ho => exact ho.sleeping
    | loadsCcr _ u c ho e => rw [e, setCcr_sleeping, ho.sleeping]
    | sleeps hi => exact absurd hi hs
    | traps k hi => exact absurd hi (ht k)
  · simp [step, checkThen, hp, hs, hq, afterCheck]

end Sys2Proof.Machine
end

section
/-!
SUPPORT. The effective addresses as numbers (spec/20_memory.md R83 to R90), and the obligation about them.
-/

namespace Sys2Proof.Machine

/-- The address in a register is its number modulo the size of the space. -/
theorem addrOf_toNat (v : Long) : (addrOf v).toNat = v.toNat % 2 ^ 24 := by
  rw [addrOf, BitVec.extractLsb'_toNat, Nat.shiftRight_zero]

theorem addrOf_eq_ofInt (v : Long) : addrOf v = BitVec.ofInt 24 v.toNat := by
  apply BitVec.eq_of_toNat_eq
  rw [addrOf_toNat, BitVec.ofInt_natCast, BitVec.toNat_ofNat]

/-- Settles O56: each form by its own arithmetic; the sums split into address and displacement. -/
theorem effectiveAddresses : Obligations.EffectiveAddresses := by
  refine ⟨fun s n => addrOf_toNat _, fun s d n => ?_, fun s d n => ⟨?_, ?_⟩, fun a => ?_, fun a => rfl, fun a => rfl⟩
  · rw [eaDisp16, BitVec.ofInt_add, ← addrOf_eq_ofInt]
    rfl
  · rw [eaDisp24, BitVec.ofInt_add, ← addrOf_eq_ofInt, BitVec.ofInt_toInt]
  · rw [eaDisp24, addrOf_eq_ofInt, BitVec.ofInt_natCast, BitVec.ofNat_add, BitVec.ofNat_toNat (x := d),
      BitVec.setWidth_eq]
  · rw [eaAbs8, BitVec.toNat_append, ← Nat.shiftLeft_add_eq_or_of_lt a.isLt]
    rfl

end Sys2Proof.Machine
end

section
/-!
SUPPORT. What the accesses to memory do, by bus address (spec/20_memory.md R72 to R81, R95): a read depends on the bus
address alone; a write that completes stores its cells, which are read back; and it completes exactly if they are `ram`.
With the obligations about them.
-/

namespace Sys2Proof.Machine

variable {s t u : State}

/-! ### Addresses -/

/-- Two addresses with one bus address have their bytes of a wide access at the same bus addresses. -/
theorem busAddr_evenAddr_add {p : Platform} {a b : Addr} (h : busAddr p a = busAddr p b) (k : Addr) :
    busAddr p (evenAddr a + k) = busAddr p (evenAddr b + k) := by
  simp only [busAddr_eq_mod, BitVec.toNat_add, evenAddr_toNat] at h ⊢
  cases hm : p.mode <;> simp only [hm] at h ⊢ <;> omega

theorem busAddr_evenAddr {p : Platform} {a b : Addr} (h : busAddr p a = busAddr p b) :
    busAddr p (evenAddr a) = busAddr p (evenAddr b) := by
  simpa using busAddr_evenAddr_add h 0#24

/-- The even address is the same with bit 0 set (R77). -/
theorem evenAddr_or_one (a : Addr) : evenAddr (a ||| 1#24) = evenAddr a := by
  ext i hi
  interval_cases i <;> simp [evenAddr]

/-- The even address of the second word of a longword. -/
theorem evenAddr_add_two_eq (a : Addr) : evenAddr (a + 2#24) = evenAddr a + 2#24 := by
  apply BitVec.eq_of_toNat_eq
  have := a.isLt
  simp only [evenAddr_toNat, BitVec.toNat_add, BitVec.toNat_ofNat]
  omega

/-! ### Reads -/

/-- A read depends on the bus address alone. -/
theorem readByte_of_busAddr {a b : Addr} (h : busAddr s.platform a = busAddr s.platform b) :
    readByte s a = readByte s b := by
  simp only [readByte, h]

theorem readWord_of_busAddr {a b : Addr} (h : busAddr s.platform a = busAddr s.platform b) :
    readWord s a = readWord s b := by
  simp only [readWord, readByte_of_busAddr (busAddr_evenAddr h), readByte_of_busAddr (busAddr_evenAddr_add h 1#24)]

theorem readLong_of_busAddr {a b : Addr} (h : busAddr s.platform a = busAddr s.platform b) :
    readLong s a = readLong s b := by
  simp only [readLong, readWord_of_busAddr (busAddr_evenAddr h), readWord_of_busAddr (busAddr_evenAddr_add h 2#24)]

/-- Words and longwords depend on the even address alone (R77, R78). -/
theorem readWord_of_evenAddr {a b : Addr} (h : evenAddr a = evenAddr b) : readWord s a = readWord s b := by
  simp only [readWord, h]

theorem readLong_of_evenAddr {a b : Addr} (h : evenAddr a = evenAddr b) : readLong s a = readLong s b := by
  simp only [readLong, h]

/-- The stops of a byte read, by the class of the address (R95; logs 6, 7). -/
theorem readByte_noValue {a : Addr}
    (hc : classOf s.platform (busAddr s.platform a) = .ram ∨ classOf s.platform (busAddr s.platform a) = .rom)
    (hv : memGet s.mem (busAddr s.platform a) = none) : readByte s a = .fault .noValue := by
  rcases hc with hc | hc <;> simp only [readByte, hc, hv]

theorem readByte_noMemory {a : Addr} (hc : classOf s.platform (busAddr s.platform a) = .none) :
    readByte s a = .fault .noMemory := by
  simp only [readByte, hc]

theorem readByte_ioAccess {a : Addr} (hc : classOf s.platform (busAddr s.platform a) = .io) :
    readByte s a = .refused .ioAccess := by
  simp only [readByte, hc]

/-- A word that is read is made of its two bytes. -/
theorem readByte_of_readWord {a : Addr} {w : Word} (h : readWord s a = .next w) :
    readByte s (evenAddr a) = .next (w.extractLsb' 8 8) ∧
      readByte s (evenAddr a + 1#24) = .next (w.extractLsb' 0 8) := by
  obtain ⟨x, y, hx, hy, rfl⟩ := readWord_eq_next.1 h
  rw [hx, hy, BitVec.extractLsb'_append_eq_left, BitVec.extractLsb'_append_eq_right]
  exact ⟨rfl, rfl⟩

/-- Settles O57: a read by its class, its bus address and its bytes. -/
theorem memoryReads : Obligations.MemoryReads := by
  intro s
  refine ⟨fun hm a => ?_, fun hm a => ?_, fun a b h => ?_, fun a hc => ?_, fun a => readByte_noMemory,
    fun a => readByte_ioAccess, fun a h l hh hl => ?_, fun a w => readByte_of_readWord, fun a => ?_,
    fun a h l hh hl => ?_⟩
  · simp [busAddr_eq_mod, hm]
  · simp [busAddr_eq_mod, hm]
  · exact ⟨readByte_of_busAddr h, readWord_of_busAddr h, readLong_of_busAddr h⟩
  · exact ⟨fun v hv => readByte_eq_next.2 ⟨hc, hv⟩, readByte_noValue hc⟩
  · exact readWord_eq_next.2 ⟨h, l, hh, hl, rfl⟩
  · have e : evenAddr (a ||| 1#24) = evenAddr (a &&& 0xFFFFFE#24) :=
      (evenAddr_or_one a).trans (evenAddr_evenAddr a).symm
    exact ⟨readWord_of_evenAddr e, readLong_of_evenAddr e⟩
  · rw [← readWord_of_evenAddr (evenAddr_evenAddr a)] at hh
    rw [readWord_of_evenAddr (b := evenAddr a + 2#24) (by rw [evenAddr_add_two_eq, evenAddr_add_two])] at hl
    exact readLong_eq_next.2 ⟨h, l, hh, hl, rfl⟩

/-! ### The cells of a write -/

/-- A part of a part of a value is a part of the value. -/
theorem extractLsb'_extractLsb'_of_le {w i j m n : Nat} (v : BitVec w) (h : i + m ≤ n) :
    (v.extractLsb' j n).extractLsb' i m = v.extractLsb' (j + i) m := by
  ext k hk
  simp [show i + k < n by omega, Nat.add_assoc]

/-- The cells of a longword are those of its two words. -/
theorem longCells_eq_append (a : Addr) (v : Long) :
    longCells a v = wordCells (evenAddr a) (v.extractLsb' 16 16) ++
      wordCells (evenAddr a + 2#24) (v.extractLsb' 0 16) := by
  simp [longCells, wordCells, BitVec.add_assoc, extractLsb'_extractLsb'_of_le]

/-- Cells at different bus addresses. -/
def CellsApart (p : Platform) (cells : List (Addr × Byte)) : Prop :=
  cells.Pairwise fun c d => busAddr p c.1 ≠ busAddr p d.1

theorem cellsApart_singleton (p : Platform) (c : Addr × Byte) : CellsApart p [c] := List.pairwise_singleton _ c

/-- The cells of wide accesses lie apart: they are the first bytes from an even address on. -/
theorem longCells_apart (p : Platform) (a : Addr) (v : Long) : CellsApart p (longCells a v) := by
  have ne := fun i j hi hj h => busAddr_ne p (evenAddr a) (i := i) (j := j) hi hj h
  have ne0 := fun j hj h => BitVec.add_zero (evenAddr a) ▸ ne 0 j (by decide) hj h
  simp only [CellsApart, longCells, List.pairwise_cons, List.mem_cons, List.not_mem_nil, or_false,
    forall_eq_or_imp, forall_eq, false_imp_iff, implies_true, List.Pairwise.nil, and_true]
  exact ⟨⟨ne0 1 (by decide) (by decide), ne0 2 (by decide) (by decide), ne0 3 (by decide) (by decide)⟩,
    ⟨ne 1 2 (by decide) (by decide) (by decide), ne 1 3 (by decide) (by decide) (by decide)⟩,
    ne 2 3 (by decide) (by decide) (by decide)⟩

theorem wordCells_apart (p : Platform) (a : Addr) (v : Word) : CellsApart p (wordCells a v) := by
  have h01 := busAddr_ne p (evenAddr a) (i := 0) (j := 1) (by decide) (by decide) (by decide)
  rw [BitVec.add_zero] at h01
  simpa [CellsApart, wordCells] using h01

/-- Among cells that lie apart, the one found at a cell's address is that cell. -/
theorem CellsApart.find_eq {p : Platform} {cells : List (Addr × Byte)} (h : CellsApart p cells)
    {c : Addr × Byte} (hc : c ∈ cells) :
    cells.find? (fun d => busAddr p d.1 == busAddr p c.1) = some c := by
  induction cells with
  | nil => simp at hc
  | cons d cells ih =>
    obtain ⟨hd, hcs⟩ := List.pairwise_cons.1 h
    rcases List.mem_cons.1 hc with rfl | hc
    · simp
    · rw [List.find?_cons_of_neg (by simpa using hd c hc)]
      exact ih hcs hc

/-! ### Reading the cells back -/

section
variable {cells : List (Addr × Byte)} (h : MemoryAfter s t cells) (apart : CellsApart s.platform cells)
include h apart

theorem MemoryAfter.readByte_cell {a : Addr} {v : Byte} (hc : (a, v) ∈ cells) : readByte t a = .next v := by
  rw [h.1, apart.find_eq hc]

theorem MemoryAfter.readWord_cells {a : Addr} {v : Word} (hc : wordCells a v ⊆ cells) : readWord t a = .next v := by
  simp only [wordCells, List.cons_subset, List.nil_subset, and_true] at hc
  obtain ⟨hx, hy⟩ := hc
  exact readWord_eq_next.2 ⟨_, _, h.readByte_cell apart hx, h.readByte_cell apart hy,
    (BitVec.extractLsb'_append_extractLsb' (w := 8) (len := 8) (x := v)).symm⟩

theorem MemoryAfter.readLong_cells {a : Addr} {v : Long} (hc : longCells a v ⊆ cells) : readLong t a = .next v := by
  obtain ⟨hx, hy⟩ := List.append_subset.1 (longCells_eq_append a v ▸ hc)
  exact readLong_eq_next.2 ⟨_, _, h.readWord_cells apart hx, h.readWord_cells apart hy,
    (BitVec.extractLsb'_append_extractLsb' (w := 16) (len := 16) (x := v)).symm⟩

end

/-! ### What a write does -/

/-- The operation completes exactly if these cells are `ram`, and then it stores them and changes nothing else. -/
structure Writes (f : State → Res State) (cells : List (Addr × Byte)) : Prop where
  complete_iff : ∀ s, (∃ t, f s = .next t) ↔ Writable s cells
  memoryOnly : ∀ {s t}, f s = .next t → MemoryOnly s t
  memoryAfter : ∀ {s t}, f s = .next t → MemoryAfter s t cells

/-- Which cells are `ram` is settled by the platform. -/
theorem writable_congr (h : t.platform = s.platform) (cells : List (Addr × Byte)) :
    Writable t cells ↔ Writable s cells := by
  simp only [Writable, h]

/-- Two writes in a row, of cells that lie apart. -/
theorem Writes.seq {f g : State → Res State} {c d : List (Addr × Byte)} (hf : Writes f c) (hg : Writes g d)
    (apart : ∀ p, CellsApart p (c ++ d)) : Writes (fun s => andThen (f s) g) (c ++ d) where
  complete_iff s := by
    have keeps {u} (hu : f s = .next u) := writable_congr (hf.memoryOnly hu).platform d
    rw [Writable, List.forall_mem_append]
    constructor
    · rintro ⟨t, h⟩
      obtain ⟨u, hu, ht⟩ := andThen_eq_next.1 h
      exact ⟨(hf.complete_iff s).1 ⟨u, hu⟩, (keeps hu).1 ((hg.complete_iff u).1 ⟨t, ht⟩)⟩
    · rintro ⟨hc, hd⟩
      obtain ⟨u, hu⟩ := (hf.complete_iff s).2 hc
      obtain ⟨t, ht⟩ := (hg.complete_iff u).2 ((keeps hu).2 hd)
      exact ⟨t, andThen_eq_next.2 ⟨u, hu, ht⟩⟩
  memoryOnly h := by
    obtain ⟨u, hu, ht⟩ := andThen_eq_next.1 h
    exact (hf.memoryOnly hu).trans (hg.memoryOnly ht)
  memoryAfter h := by
    obtain ⟨u, hu, ht⟩ := andThen_eq_next.1 h
    exact (hf.memoryAfter hu).append (hg.memoryAfter ht) (hf.memoryOnly hu).platform
      (List.pairwise_append.1 (apart _)).2.2

theorem writeByte_memoryAfter {a : Addr} {v : Byte} (h : writeByte s a v = .next t) : MemoryAfter s t [(a, v)] := by
  refine ⟨fun b => ?_, fun b => ?_⟩
  · rw [readByte_writeByte h]
    by_cases e : busAddr s.platform a = busAddr s.platform b <;> simp [e]
  · obtain ⟨-, rfl⟩ := writeByte_eq_next.1 h
    simp [mem_addAddress, or_comm]

theorem writeByte_writes (a : Addr) (v : Byte) : Writes (fun s => writeByte s a v) [(a, v)] where
  complete_iff s := by simp [writeByte_eq_next, Writable]
  memoryOnly := writeByte_memoryOnly
  memoryAfter := writeByte_memoryAfter

theorem writeWord_writes (a : Addr) (v : Word) : Writes (fun s => writeWord s a v) (wordCells a v) :=
  (writeByte_writes _ _).seq (writeByte_writes _ _) fun p => wordCells_apart p a v

theorem writeLong_writes (a : Addr) (v : Long) : Writes (fun s => writeLong s a v) (longCells a v) := by
  have apart := fun p => longCells_apart p a v
  rw [longCells_eq_append] at apart ⊢
  exact (writeWord_writes _ _).seq (writeWord_writes _ _) apart

/-- The stops of a byte write, by the class of the address (R95; log 7). -/
theorem writeByte_storeToRom {a : Addr} (v : Byte) (hc : classOf s.platform (busAddr s.platform a) = .rom) :
    writeByte s a v = .refused .storeToRom := by
  simp only [writeByte, hc]

theorem writeByte_ioAccess {a : Addr} (v : Byte) (hc : classOf s.platform (busAddr s.platform a) = .io) :
    writeByte s a v = .refused .ioAccess := by
  simp only [writeByte, hc]

theorem writeByte_noMemory {a : Addr} (v : Byte) (hc : classOf s.platform (busAddr s.platform a) = .none) :
    writeByte s a v = .fault .noMemory := by
  simp only [writeByte, hc]

/-- Settles O58: the cells that a write stores, which lie apart, are what a read of its size finds. -/
theorem readAfterWrite : Obligations.ReadAfterWrite := by
  intro s
  refine ⟨fun a v t h => ?_, fun a v t h => ?_, fun a v t h => ?_, fun a v => (writeByte_writes a v).complete_iff s,
    fun a v => (writeWord_writes a v).complete_iff s, fun a v => (writeLong_writes a v).complete_iff s,
    fun a v => ⟨writeByte_storeToRom v, writeByte_ioAccess v, writeByte_noMemory v⟩⟩
  · have m := (writeByte_writes a v).memoryAfter h
    exact ⟨m.readByte_cell (cellsApart_singleton _ _) (List.mem_singleton_self _), m⟩
  · have m := (writeWord_writes a v).memoryAfter h
    exact ⟨m.readWord_cells (wordCells_apart _ a v) (List.Subset.refl _), m⟩
  · have m := (writeLong_writes a v).memoryAfter h
    exact ⟨m.readLong_cells (longCells_apart _ a v) (List.Subset.refl _), m⟩

end Sys2Proof.Machine
end

section
/-!
SUPPORT. Moves between memory and registers (spec/40_data_transfer.md R170 to R187): when an instruction completes as
claimed, from the state it ends in, and the obligations about post-increment loads and pre-decrement stores.
-/

namespace Sys2Proof.Machine

variable {i j : Instr} {s t u : State} {w : Nat} {v : BitVec w}

/-! ### Completing -/

/-- Instructions of one meaning complete alike. -/
theorem Completes.congr {flags : List (CcrBit × Bool)} {cells : List (Addr × Byte)} {p : State → Prop}
    (h : Completes j s flags cells p) (e : exec i s = exec j s) : Completes i s flags cells p := by
  rwa [Completes, e]

/-- A move to registers: they and the flags of the value moved alone differ. -/
theorem completes_load {p : State → Prop} (h : exec i s = .next t) (hp : p t)
    (hc : t.ccr = ccrPutNZV0 s.ccr v := by rfl) (hm : t.mem = s.mem := by rfl) (hs : t.stored = s.stored := by rfl)
    (he : EnvKept s t := by exact ⟨rfl, rfl, rfl, rfl⟩) : Completes i s (signZeroClearV v) [] p :=
  ⟨t, h, flagsAfter_signZeroClearV v hc, memoryAfter_nil hm hs he.platform, he, hp⟩

/-- A move to memory: a write from the state with registers `e`, then the flags of the value moved. -/
theorem completes_store {e : Vector Long 8} {cells : List (Addr × Byte)}
    (h : exec i s = .next (u.setCcr (ccrPutNZV0 u.ccr v))) (ho : MemoryOnly (s.setEr e) u)
    (hm : MemoryAfter (s.setEr e) u cells) :
    Completes i s (signZeroClearV v) cells fun t => t.er = e ∧ t.pc = s.pc := by
  -- `hm` serves as it is: `MemoryAfter` speaks of neither the registers of `s` nor the CCR of the next state.
  refine ⟨_, h, flagsAfter_signZeroClearV v (by rw [setCcr_ccr, ho.ccr, setEr_ccr]), hm, ?_, ho.er, ho.pc⟩
  exact ⟨ho.sleeping, ho.irq, ho.startPending, ho.platform⟩

theorem Completes.mono {flags : List (CcrBit × Bool)} {cells : List (Addr × Byte)} {p q : State → Prop}
    (h : Completes i s flags cells p) (hpq : ∀ t, p t → q t) : Completes i s flags cells q := by
  obtain ⟨t, hx, hf, hm, he, hp⟩ := h
  exact ⟨t, hx, hf, hm, he, hpq t hp⟩

/-! ### The address register and the data register -/

section
variable (s) {k : RegNum} {m n : ErNum} (x : Long)

@[simp] theorem readEr_setCcr (c : Byte) (n : ErNum) : readEr (s.setCcr c) n = readEr s n := rfl
@[simp] theorem readR8_setCcr (c : Byte) (k : RegNum) : readR8 (s.setCcr c) k = readR8 s k := rfl
@[simp] theorem readR16_setCcr (c : Byte) (k : RegNum) : readR16 (s.setCcr c) k = readR16 s k := rfl

/-- The decremented register is the address of the store (R87). -/
theorem eaInd_dropEr (n : ErNum) : eaInd (dropEr s n x) n = addrOf (readEr s n - x) := by
  rw [eaInd, readEr_dropEr, if_pos rfl]

/-- A data register that is no part of the incremented register is as before. -/
theorem readR8_bumpEr_other (h : erOf k ≠ n) : readR8 (bumpEr s n x) k = readR8 s k := by
  simp only [readR8, readEr_bumpEr, if_neg h]

theorem readR16_bumpEr_other (h : erOf k ≠ n) : readR16 (bumpEr s n x) k = readR16 s k := by
  simp only [readR16, readEr_bumpEr, if_neg h]

theorem onlyR8AndEr_resultR8 (v : Byte) (h : erOf k ≠ n) :
    OnlyR8AndEr s (resultR8 (bumpEr s n x) k v) k v n (readEr s n + x) := by
  refine ⟨?_, ?_, fun j hj hn => ?_, fun m hm => ?_⟩ <;> rw [resultR8]
  · rw [readR8_setCcr, readR8_writeR8, if_pos rfl]
  · rw [readEr_setCcr, readEr_writeR8_other _ v h.symm, readEr_bumpEr, if_pos rfl]
  · rw [readR8_setCcr, readR8_writeR8, if_neg hj, readR8_bumpEr_other s x hn]
  · rw [readEr_setCcr, upper_writeR8, readEr_bumpEr, if_neg hm]

theorem onlyR16AndEr_resultR16 (v : Word) (h : erOf k ≠ n) :
    OnlyR16AndEr s (resultR16 (bumpEr s n x) k v) k v n (readEr s n + x) := by
  refine ⟨?_, ?_, fun j hj hn => ?_⟩ <;> rw [resultR16]
  · rw [readR16_setCcr, readR16_writeR16, if_pos rfl]
  · rw [readEr_setCcr, readEr_writeR16_other _ v h.symm, readEr_bumpEr, if_pos rfl]
  · rw [readR16_setCcr, readR16_writeR16, if_neg hj, readR16_bumpEr_other s x hn]

theorem onlyTwoEr_resultEr (v : Long) (h : m ≠ n) :
    OnlyTwoEr s (resultEr (bumpEr s n x) m v) m v n (readEr s n + x) := by
  refine ⟨?_, ?_, fun o hm hn => ?_⟩ <;> rw [resultEr, readEr_setCcr, readEr_writeEr]
  · rw [if_pos rfl]
  · rw [if_neg h.symm, readEr_bumpEr, if_pos rfl]
  · rw [if_neg hm, readEr_bumpEr, if_neg hn]

end

/-! ### Post-increment loads -/

section
variable {ers erd : ErNum} {rd : RegNum}

theorem exec_movBLdInc (h : erOf rd ≠ ers) :
    exec (.movBLdInc ers rd) s =
      andThen (readByte s (eaInd s ers)) fun v => .next (resultR8 (bumpEr s ers 1#32) rd v) :=
  if_neg (by simpa [partOf] using h)

theorem exec_movWLdInc (h : erOf rd ≠ ers) :
    exec (.movWLdInc ers rd) s =
      andThen (readWord s (eaInd s ers)) fun v => .next (resultR16 (bumpEr s ers 2#32) rd v) :=
  if_neg (by simpa [partOf] using h)

theorem exec_movLLdInc (h : erd ≠ ers) :
    exec (.movLLdInc ers erd) s =
      andThen (readLong s (eaInd s ers)) fun v => .next (resultEr (bumpEr s ers 4#32) erd v) :=
  if_neg (by simpa using h)

theorem movBLdInc_completes {v : Byte} (h : erOf rd ≠ ers) (hr : readByte s (eaInd s ers) = .next v) :
    Completes (.movBLdInc ers rd) s (signZeroClearV v) [] fun t =>
      OnlyR8AndEr s t rd v ers (readEr s ers + 1#32) ∧ t.pc = s.pc :=
  completes_load (by rw [exec_movBLdInc h, hr, andThen_next]) ⟨onlyR8AndEr_resultR8 s _ v h, rfl⟩

theorem movWLdInc_completes {v : Word} (h : erOf rd ≠ ers) (hr : readWord s (eaInd s ers) = .next v) :
    Completes (.movWLdInc ers rd) s (signZeroClearV v) [] fun t =>
      OnlyR16AndEr s t rd v ers (readEr s ers + 2#32) ∧ t.pc = s.pc :=
  completes_load (by rw [exec_movWLdInc h, hr, andThen_next]) ⟨onlyR16AndEr_resultR16 s _ v h, rfl⟩

theorem movLLdInc_completes {v : Long} (h : erd ≠ ers) (hr : readLong s (eaInd s ers) = .next v) :
    Completes (.movLLdInc ers erd) s (signZeroClearV v) [] fun t =>
      OnlyTwoEr s t erd v ers (readEr s ers + 4#32) ∧ t.pc = s.pc :=
  completes_load (by rw [exec_movLLdInc h, hr, andThen_next]) ⟨onlyTwoEr_resultEr s _ v h, rfl⟩

end

/-! ### Pre-decrement stores -/

theorem onlyEr_of_er {n : ErNum} {x : Long} (h : t.er = (writeEr s n x).er) : OnlyEr s t n x :=
  ⟨(readEr_congr h n).trans (readEr_writeEr_same s n x),
    fun m hm => (readEr_congr h m).trans (readEr_writeEr_other s x hm)⟩

/-- A write after the decrement, then the flags of the value stored. -/
theorem Writes.storesAndSets {f : State → Res State} {cells : List (Addr × Byte)} {n : ErNum} {x : Long}
    (hf : Writes f cells)
    (h : exec i s = andThen (f (dropEr s n x)) fun u => .next (u.setCcr (ccrPutNZV0 u.ccr v)))
    (hw : Writable s cells) : StoresAndSets i s cells n (readEr s n - x) (signZeroClearV v) := by
  obtain ⟨u, hu⟩ := (hf.complete_iff (dropEr s n x)).2 ((writable_congr rfl cells).2 hw)
  rw [hu, andThen_next] at h
  exact (completes_store h (hf.memoryOnly hu) (hf.memoryAfter hu)).mono fun t ⟨he, hpc⟩ => ⟨onlyEr_of_er he, hpc⟩

section
variable {ers erd : ErNum} {rs : RegNum}

theorem exec_movBStDec (h : erOf rs ≠ erd) :
    exec (.movBStDec rs erd) s = storeByte (dropEr s erd 1#32) (addrOf (readEr s erd - 1#32)) (readR8 s rs) := by
  rw [← eaInd_dropEr]
  exact if_neg (by simpa [partOf] using h)

theorem exec_movWStDec (h : erOf rs ≠ erd) :
    exec (.movWStDec rs erd) s = storeWord (dropEr s erd 2#32) (addrOf (readEr s erd - 2#32)) (readR16 s rs) := by
  rw [← eaInd_dropEr]
  exact if_neg (by simpa [partOf] using h)

theorem exec_movLStDec (h : ers ≠ erd) :
    exec (.movLStDec ers erd) s = storeLong (dropEr s erd 4#32) (addrOf (readEr s erd - 4#32)) (readEr s ers) := by
  rw [← eaInd_dropEr]
  exact if_neg (by simpa using h)

end

/-! ### The obligations -/

/-- Settles O3: the data register is no part of the address register, so that neither write undoes the other; POP is
the move from `@ER7+`. -/
theorem loadPostIncrement : Obligations.LoadPostIncrement := fun _ =>
  ⟨fun _ _ _ => movBLdInc_completes, fun _ _ _ => movWLdInc_completes, fun _ _ _ => movLLdInc_completes,
    fun rn _ h hr => (movWLdInc_completes h hr).congr (i := .popW rn) rfl,
    fun ern _ h hr => (movLLdInc_completes h hr).congr (i := .popL ern) rfl⟩

/-- Settles O5: the write starts from the decremented address register, whose address it takes; PUSH is the move to
`@-ER7`. -/
theorem storePreDecrement : Obligations.StorePreDecrement := fun _ =>
  ⟨fun _ _ h => (writeByte_writes _ _).storesAndSets (exec_movBStDec h),
    fun _ _ h => (writeWord_writes _ _).storesAndSets (exec_movWStDec h),
    fun _ _ h => (writeLong_writes _ _).storesAndSets (exec_movLStDec h),
    fun rn h hw => ((writeWord_writes _ _).storesAndSets (exec_movWStDec h) hw).congr (i := .pushW rn) rfl,
    fun ern h hw => ((writeLong_writes _ _).storesAndSets (exec_movLStDec h) hw).congr (i := .pushL ern) rfl⟩

end Sys2Proof.Machine
end

section
/-!
SUPPORT. What the decoder reads is an encoding of its answer (spec/30_encoding.md R147, R148): one lemma per kind of
field, one per routine of the decoder; and the obligations about encodings.
-/

namespace Sys2Proof

/-! ### Fields -/

theorem exists_nibbles (b : Byte) : ∃ x y : Nibble, x ++ y = b := ⟨_, _, nibbles b⟩

theorem exists_topBit (n : Nibble) : ∃ (top : BitVec 1) (e : BitVec 3), top ++ e = n := ⟨_, _, topBit_low3 n⟩

theorem join_of_topBit {n : Nibble} (h : topBit n = true) : 1#1 ++ low3 n = n := by simpa [h] using topBit_low3 n

theorem join_of_not_topBit {n : Nibble} (h : ¬topBit n = true) : 0#1 ++ low3 n = n := by
  simpa [h] using topBit_low3 n

/-- A nibble whose upper two bits are 0 is the number of a TRAPA (R401). -/
theorem join_trapa {n : Nibble} (h : n.extractLsb' 2 2 = 0#2) : 0#2 ++ n.extractLsb' 0 2 = n := by
  revert n; decide

/-- To show something of every nibble, show it of each of the sixteen. -/
theorem nibbleCases {P : Nibble → Prop} (x0 : P 0x0#4) (x1 : P 0x1#4) (x2 : P 0x2#4) (x3 : P 0x3#4) (x4 : P 0x4#4)
    (x5 : P 0x5#4) (x6 : P 0x6#4) (x7 : P 0x7#4) (x8 : P 0x8#4) (x9 : P 0x9#4) (xA : P 0xA#4) (xB : P 0xB#4)
    (xC : P 0xC#4) (xD : P 0xD#4) (xE : P 0xE#4) (xF : P 0xF#4) (n : Nibble) : P n := by
  obtain ⟨k⟩ := n
  fin_cases k
  exacts [x0, x1, x2, x3, x4, x5, x6, x7, x8, x9, xA, xB, xC, xD, xE, xF]

theorem byteOf_append_zero {w : Nat} (x : BitVec w) (c : Byte) : byteOf (x ++ c) 0 = c :=
  BitVec.extractLsb'_append_eq_right

theorem byteOf_append_succ {w : Nat} (x : BitVec w) (c : Byte) (k : Nat) : byteOf (x ++ c) (k + 1) = byteOf x k :=
  BitVec.extractLsb'_append_eq_of_le (by omega)

theorem be16_append (a b : Byte) : be16 (a ++ b) = [a, b] := by
  show [byteOf (a ++ b) 1, byteOf (a ++ b) 0] = _
  simp [byteOf_append_zero, byteOf_append_succ]

theorem be24_append (a b c : Byte) : be24 (a ++ b ++ c) = [a, b, c] := by
  show [byteOf (a ++ b ++ c) 2, byteOf (a ++ b ++ c) 1, byteOf (a ++ b ++ c) 0] = _
  simp [byteOf_append_zero, byteOf_append_succ]

theorem be32_append (a b c d : Byte) : be32 (a ++ b ++ c ++ d) = [a, b, c, d] := by
  show [byteOf (a ++ b ++ c ++ d) 3, byteOf (a ++ b ++ c ++ d) 2, byteOf (a ++ b ++ c ++ d) 1,
    byteOf (a ++ b ++ c ++ d) 0] = _
  simp [byteOf_append_zero, byteOf_append_succ]

/-- The 24-bit operand of JMP and JSR, whose first byte ends the first word. -/
theorem be24_append_word (a : Byte) (v : Word) : be24 (a ++ v) = a :: be16 v :=
  congr (congrArg₂ (fun x y z => [x, y, z]) BitVec.extractLsb'_append_eq_left
    (BitVec.extractLsb'_append_eq_of_add_le (by decide))) (BitVec.extractLsb'_append_eq_of_add_le (by decide))

theorem bccOf_isAlias (cc : Nibble) (d : BranchDisp) : (bccOf cc d).isAlias = false := by
  cases cc using nibbleCases <;> rfl

/-- The condition is a nibble of the first word in both forms of Bcc (R143). -/
theorem encodeWith_bccOf_d8 (ign : BitVec 1) (cc : Nibble) (d : Byte) :
    encodeWith ign (bccOf cc (.d8 d)) = [0x4#4 ++ cc, d] := by
  cases cc using nibbleCases <;> rfl

theorem encodeWith_bccOf_d16 (ign : BitVec 1) (cc : Nibble) (d : Word) :
    encodeWith ign (bccOf cc (.d16 d)) = [0x58#8, cc ++ 0x0#4] ++ be16 d := by
  cases cc using nibbleCases <;> rfl

/-! ### Answers -/

/-- Where the decoder answers an instruction of `n` bytes, it is none of the PUSH and POP names, and the first `n` of
the bytes `l` are an encoding of it. -/
def Decoded.Encodes : Decoded → List Byte → Prop
  | .ok i n, l => i.isAlias = false ∧ ∃ ign, l.take n = encodeWith ign i
  | .undefined, _ | .short, _ => True

theorem Decoded.Encodes.undefined {l : List Byte} : Decoded.undefined.Encodes l := trivial

theorem Decoded.Encodes.short {l : List Byte} : Decoded.short.Encodes l := trivial

theorem Decoded.Encodes.ok {l : List Byte} {i : Instr} {k : Nat} (ign : BitVec 1) (ha : i.isAlias = false)
    (h : l.take k = encodeWith ign i) : (Decoded.ok i k).Encodes l := ⟨ha, ign, h⟩

/-! A field that a routine takes from the bytes is written back into them: `L` and `N` are the bytes as a function of
what the field is taken from. -/

section
variable {l rest : List Byte} {L : List Byte → List Byte} {N : Nibble → List Byte} {n : Nibble} {d e : Decoded}

theorem withLow3_encodes {f : BitVec 3 → Decoded} (h : (f (low3 n)).Encodes (N (0#1 ++ low3 n))) :
    (withLow3 n f).Encodes (N n) := by
  unfold withLow3; split
  · exact .undefined
  · next hn => rwa [join_of_not_topBit hn] at h

theorem ifZero_encodes_of {w : Nat} {n : BitVec w} (h : n = 0#w → d.Encodes l) : (ifZero n d).Encodes l := by
  unfold ifZero; split
  · next hn => exact h hn
  · exact .undefined

theorem ifZero_encodes {w : Nat} {n : BitVec w} {L : BitVec w → List Byte} (h : d.Encodes (L 0#w)) :
    (ifZero n d).Encodes (L n) :=
  ifZero_encodes_of fun hn => hn ▸ h

theorem ite_topBit_encodes (hd : d.Encodes (N (1#1 ++ low3 n))) (he : e.Encodes (N n)) :
    (if topBit n then d else e).Encodes (N n) := by
  split
  · next hn => rwa [join_of_topBit hn] at hd
  · exact he

/-- Two instructions that the top bit of a nibble tells apart. -/
theorem ok_topBit_encodes {i j : Instr} {k : Nat} (hi : (Decoded.ok i k).Encodes (N (1#1 ++ low3 n)))
    (hj : (Decoded.ok j k).Encodes (N (0#1 ++ low3 n))) :
    (Decoded.ok (if topBit n then i else j) k).Encodes (N n) := by
  split
  · next hn => rwa [join_of_topBit hn] at hi
  · next hn => rwa [join_of_not_topBit hn] at hj

theorem withWord_encodes {f : Byte → Byte → List Byte → Decoded} (h : ∀ a b t, (f a b t).Encodes (L (a :: b :: t))) :
    (withWord rest f).Encodes (L rest) := by
  unfold withWord; split
  · exact h _ _ _
  · exact .short

theorem with16_encodes {f : Word → Decoded} (h : ∀ v t, (f v).Encodes (L (be16 v ++ t))) :
    (with16 rest f).Encodes (L rest) := by
  unfold with16; split
  · next a b t => simpa [be16_append] using h (a ++ b) t
  · exact .short

theorem with32_encodes {f : Long → Decoded} (h : ∀ v t, (f v).Encodes (L (be32 v ++ t))) :
    (with32 rest f).Encodes (L rest) := by
  unfold with32; split
  · next a b c d t => simpa [be32_append] using h (a ++ b ++ c ++ d) t
  · exact .short

theorem with0x24_encodes {f : BitVec 24 → Decoded} (h : ∀ v t, (f v).Encodes (L (0x00#8 :: (be24 v ++ t)))) :
    (with0x24 rest f).Encodes (L rest) := by
  unfold with0x24; split
  · next a b c t =>
    exact ifZero_encodes (L := fun z => L (z :: a :: b :: c :: t)) (by simpa [be24_append] using h (a ++ b ++ c) t)
  · exact .short

end

/-! ### Routines

Bytes that begin in the way of a routine are an encoding of what it answers. -/

/-- In `MOV.L ERs,@(d:24,ERd)` the ignored bit is the one that was read (R150). -/
theorem decode0100_encodes (r : List Byte) : (decode0100 r).Encodes (0x01#8 :: 0x00#8 :: r) := by
  apply withWord_encodes
  intro a b t
  obtain ⟨x, y, rfl⟩ := exists_nibbles b
  simp only [hiNib_append, loNib_append]
  split
  case h_1 | h_2 => apply withLow3_encodes; apply ok_topBit_encodes <;> exact .ok 0#1 rfl rfl
  case h_3 =>
    apply withLow3_encodes
    apply with16_encodes
    intro d t
    apply ok_topBit_encodes <;> exact .ok 0#1 rfl rfl
  case h_4 =>
    apply withLow3_encodes
    split
    case h_1 | h_3 => apply with16_encodes; exact fun _ _ => .ok 0#1 rfl rfl
    case h_2 | h_4 => apply with0x24_encodes; exact fun _ _ => .ok 0#1 rfl rfl
    case h_5 => exact .undefined
  case h_5 =>
    apply ifZero_encodes
    apply withWord_encodes
    intro a b t
    obtain ⟨x', y', rfl⟩ := exists_nibbles b
    simp only [hiNib_append, loNib_append]
    split
    · subst a
      apply withLow3_encodes
      split
      · apply withLow3_encodes; apply with0x24_encodes; exact fun _ _ => .ok 0#1 rfl rfl
      · obtain ⟨top, e, rfl⟩ := exists_topBit x
        rw [low3_append]
        apply with0x24_encodes
        exact fun _ _ => .ok top rfl rfl
      · exact .undefined
    · exact .undefined
  case h_6 => exact .undefined

/-- In `STC.W CCR,@(d:24,ERd)` the ignored bit is the one that was read (R150). -/
theorem decode0140_encodes (r : List Byte) : (decode0140 r).Encodes (0x01#8 :: 0x40#8 :: r) := by
  apply withWord_encodes
  intro a b t
  obtain ⟨x, y, rfl⟩ := exists_nibbles b
  simp only [hiNib_append, loNib_append]
  apply ifZero_encodes
  split
  case h_1 | h_2 => apply ok_topBit_encodes <;> exact .ok 0#1 rfl rfl
  case h_3 =>
    apply with16_encodes
    intro d t
    apply ok_topBit_encodes <;> exact .ok 0#1 rfl rfl
  case h_4 =>
    split
    case h_1 | h_3 => apply with16_encodes; exact fun _ _ => .ok 0#1 rfl rfl
    case h_2 | h_4 => apply with0x24_encodes; exact fun _ _ => .ok 0#1 rfl rfl
    case h_5 => exact .undefined
  case h_5 =>
    apply withWord_encodes
    intro a b t
    split
    · apply withLow3_encodes; apply with0x24_encodes; exact fun _ _ => .ok 0#1 rfl rfl
    · obtain ⟨top, e, rfl⟩ := exists_topBit x
      rw [low3_append]
      apply with0x24_encodes
      exact fun _ _ => .ok top rfl rfl
    · exact .undefined
  case h_6 => exact .undefined

theorem decode01Arith_encodes (p : Byte) (r : List Byte) : (decode01Arith p r).Encodes (0x01#8 :: p :: r) := by
  apply withWord_encodes
  intro a b t
  obtain ⟨x, y, rfl⟩ := exists_nibbles b
  simp only [hiNib_append, loNib_append]
  split
  case h_1 | h_3 => exact .ok 0#1 rfl rfl
  case h_2 | h_4 => apply withLow3_encodes; exact .ok 0#1 rfl rfl
  case h_5 | h_6 | h_7 => apply withLow3_encodes; apply withLow3_encodes; exact .ok 0#1 rfl rfl
  case h_8 => exact .undefined

theorem decode0_encodes (l : Nibble) (b : Byte) (r : List Byte) : (decode0 l b r).Encodes ((0x0#4 ++ l) :: b :: r) := by
  obtain ⟨x, y, rfl⟩ := exists_nibbles b
  cases l using nibbleCases with simp only [decode0, hiNib_append, loNib_append]
  | x0 => generalize x ++ y = b; apply ifZero_encodes; exact .ok 0#1 rfl rfl
  | x1 =>
    generalize x ++ y = b
    split
    case h_1 => exact decode0100_encodes r
    case h_2 => exact decode0140_encodes r
    case h_3 => exact .ok 0#1 rfl rfl
    case h_4 | h_5 | h_6 => exact decode01Arith_encodes _ r
    case h_7 => exact .undefined
  | x2 | x3 => apply ifZero_encodes; exact .ok 0#1 rfl rfl
  | x4 | x5 | x6 | x7 | x8 | x9 | xC | xD | xE => exact .ok 0#1 rfl rfl
  | xA | xF =>
    apply ite_topBit_encodes
    · apply withLow3_encodes; exact .ok 0#1 rfl rfl
    · apply ifZero_encodes; exact .ok 0#1 rfl rfl
  | xB =>
    split
    case h_2 | h_6 => exact .ok 0#1 rfl rfl
    case h_1 | h_3 | h_4 | h_5 | h_7 => apply withLow3_encodes; exact .ok 0#1 rfl rfl
    case h_8 => exact .undefined

theorem decode1_encodes (l : Nibble) (b : Byte) (r : List Byte) :
    (decode1 l b).Encodes ((0x1#4 ++ l) :: b :: r) := by
  obtain ⟨x, y, rfl⟩ := exists_nibbles b
  cases l using nibbleCases with simp only [decode1, hiNib_append, loNib_append]
  | x0 | x1 | x2 | x3 =>
    split
    case h_1 | h_2 | h_4 | h_5 => exact .ok 0#1 rfl rfl
    case h_3 | h_6 => apply withLow3_encodes; exact .ok 0#1 rfl rfl
    case h_7 => exact .undefined
  | x4 | x5 | x6 | x8 | x9 | xC | xD | xE => exact .ok 0#1 rfl rfl
  | x7 =>
    split
    case h_1 | h_2 | h_4 | h_6 | h_7 | h_9 => exact .ok 0#1 rfl rfl
    case h_3 | h_5 | h_8 | h_10 => apply withLow3_encodes; exact .ok 0#1 rfl rfl
    case h_11 => exact .undefined
  | xB =>
    split
    case h_2 | h_6 => exact .ok 0#1 rfl rfl
    case h_1 | h_3 | h_4 | h_5 | h_7 => apply withLow3_encodes; exact .ok 0#1 rfl rfl
    case h_8 => exact .undefined
  | xA | xF =>
    apply ite_topBit_encodes
    · apply withLow3_encodes; exact .ok 0#1 rfl rfl
    · apply ifZero_encodes; exact .ok 0#1 rfl rfl

theorem decode5_encodes (l : Nibble) (b : Byte) (r : List Byte) : (decode5 l b r).Encodes ((0x5#4 ++ l) :: b :: r) := by
  obtain ⟨x, y, rfl⟩ := exists_nibbles b
  cases l using nibbleCases with simp only [decode5, hiNib_append, loNib_append]
  | x0 | x1 | x5 | xB | xF => exact .ok 0#1 rfl rfl
  | x2 | x3 => apply withLow3_encodes; exact .ok 0#1 rfl rfl
  | x4 | x6 =>
    split
    · next hb => rw [hb]; exact .ok 0#1 rfl rfl
    · exact .undefined
  | x7 =>
    apply ifZero_encodes
    exact ifZero_encodes_of fun h => .ok 0#1 rfl (congrArg (fun n => [0x57#8, n ++ 0x0#4]) (join_trapa h).symm)
  | x8 =>
    apply ifZero_encodes
    apply with16_encodes
    exact fun d _ => .ok 0#1 (bccOf_isAlias x _) (encodeWith_bccOf_d16 0#1 x d).symm
  | x9 | xD => apply ifZero_encodes; apply withLow3_encodes; exact .ok 0#1 rfl rfl
  | xA | xE =>
    apply with16_encodes
    exact fun d _ => .ok 0#1 rfl (congrArg (List.cons _) (be24_append_word _ d).symm)
  | xC =>
    generalize x ++ y = b
    apply ifZero_encodes
    apply with16_encodes
    exact fun _ _ => .ok 0#1 rfl rfl

theorem decode6_encodes (l : Nibble) (b : Byte) (r : List Byte) : (decode6 l b r).Encodes ((0x6#4 ++ l) :: b :: r) := by
  obtain ⟨x, y, rfl⟩ := exists_nibbles b
  cases l using nibbleCases with simp only [decode6, hiNib_append, loNib_append]
  | x0 | x1 | x2 | x3 | x4 | x5 | x6 => exact .ok 0#1 rfl rfl
  | x7 | x8 | x9 | xC | xD => apply ok_topBit_encodes <;> exact .ok 0#1 rfl rfl
  | xA | xB =>
    split
    case h_1 | h_3 => apply with16_encodes; exact fun _ _ => .ok 0#1 rfl rfl
    case h_2 | h_4 => apply with0x24_encodes; exact fun _ _ => .ok 0#1 rfl rfl
    case h_5 => exact .undefined
  | xE | xF =>
    apply with16_encodes
    intro d t
    apply ok_topBit_encodes <;> exact .ok 0#1 rfl rfl

/-- The reading bit operations, whose second word is the same on `@ERd` and on `@aa:8` (R335). -/
theorem decodeBitRead_encodes (a b : Byte) (t : List Byte) :
    (∀ e : ErNum, (decodeBitReadInd e a b).Encodes (0x7C#8 :: ((0#1 ++ e) ++ 0x0#4) :: a :: b :: t)) ∧
      ∀ aa : Byte, (decodeBitReadAbs aa a b).Encodes (0x7E#8 :: aa :: a :: b :: t) := by
  obtain ⟨x, y, rfl⟩ := exists_nibbles b
  simp only [decodeBitReadInd, decodeBitReadAbs, hiNib_append, loNib_append]
  constructor
  all_goals
    intro
    apply ifZero_encodes
    split
    case h_1 => exact .ok 0#1 rfl rfl
    case h_2 => apply withLow3_encodes; exact .ok 0#1 rfl rfl
    case h_3 | h_4 | h_5 | h_6 => apply ok_topBit_encodes <;> exact .ok 0#1 rfl rfl
    case h_7 => exact .undefined

/-- The writing bit operations, likewise (R335). -/
theorem decodeBitWrite_encodes (a b : Byte) (t : List Byte) :
    (∀ e : ErNum, (decodeBitWriteInd e a b).Encodes (0x7D#8 :: ((0#1 ++ e) ++ 0x0#4) :: a :: b :: t)) ∧
      ∀ aa : Byte, (decodeBitWriteAbs aa a b).Encodes (0x7F#8 :: aa :: a :: b :: t) := by
  obtain ⟨x, y, rfl⟩ := exists_nibbles b
  simp only [decodeBitWriteInd, decodeBitWriteAbs, hiNib_append, loNib_append]
  constructor
  all_goals
    intro
    apply ifZero_encodes
    split
    case h_1 | h_2 | h_3 => exact .ok 0#1 rfl rfl
    case h_4 => apply ok_topBit_encodes <;> exact .ok 0#1 rfl rfl
    case h_5 | h_6 | h_7 => apply withLow3_encodes; exact .ok 0#1 rfl rfl
    case h_8 => exact .undefined

theorem decode78_encodes (n : ErNum) (r : List Byte) :
    (decode78 n r).Encodes (0x78#8 :: ((0#1 ++ n) ++ 0x0#4) :: r) := by
  apply withWord_encodes
  intro a b t
  obtain ⟨x, y, rfl⟩ := exists_nibbles b
  simp only [hiNib_append, loNib_append]
  split
  case h_1 | h_2 | h_3 | h_4 => apply with0x24_encodes; exact fun _ _ => .ok 0#1 rfl rfl
  case h_5 => exact .undefined

theorem decode79_encodes (x y : Nibble) (r : List Byte) : (decode79 x y r).Encodes (0x79#8 :: (x ++ y) :: r) := by
  apply with16_encodes
  intro d t
  split
  case h_8 => exact .undefined
  all_goals exact .ok 0#1 rfl rfl

theorem decode7A_encodes (x y : Nibble) (r : List Byte) : (decode7A x y r).Encodes (0x7A#8 :: (x ++ y) :: r) := by
  apply withLow3_encodes
  apply with32_encodes
  intro d t
  split
  case h_8 => exact .undefined
  all_goals exact .ok 0#1 rfl rfl

theorem decode7B_encodes (b : Byte) (r : List Byte) : (decode7B b r).Encodes (0x7B#8 :: b :: r) := by
  apply with16_encodes
  intro w t
  split
  · next hw =>
    subst hw
    split
    case h_1 | h_2 => exact .ok 0#1 rfl rfl
    case h_3 => exact .undefined
  · exact .undefined

theorem decode7_encodes (l : Nibble) (b : Byte) (r : List Byte) : (decode7 l b r).Encodes ((0x7#4 ++ l) :: b :: r) := by
  obtain ⟨x, y, rfl⟩ := exists_nibbles b
  cases l using nibbleCases with simp only [decode7, hiNib_append, loNib_append]
  | x0 | x1 | x2 | x3 => apply withLow3_encodes; exact .ok 0#1 rfl rfl
  | x4 | x5 | x6 | x7 => apply ok_topBit_encodes <;> exact .ok 0#1 rfl rfl
  | x8 =>
    apply ifZero_encodes
    apply withLow3_encodes
    exact decode78_encodes _ r
  | x9 => exact decode79_encodes x y r
  | xA => exact decode7A_encodes x y r
  | xB => exact decode7B_encodes _ r
  | xC =>
    apply ifZero_encodes
    apply withLow3_encodes
    apply withWord_encodes
    exact fun a b t => (decodeBitRead_encodes a b t).1 _
  | xD =>
    apply ifZero_encodes
    apply withLow3_encodes
    apply withWord_encodes
    exact fun a b t => (decodeBitWrite_encodes a b t).1 _
  | xE => apply withWord_encodes; exact fun a b t => (decodeBitRead_encodes a b t).2 _
  | xF => apply withWord_encodes; exact fun a b t => (decodeBitWrite_encodes a b t).2 _

/-- What the decoder reads is an encoding of its answer (R147, R148). The first nibble says which routine reads it
(R145). -/
theorem decode_encodes (l : List Byte) : (decode l).Encodes l := by
  apply withWord_encodes
  intro c b t
  obtain ⟨h, l, rfl⟩ := exists_nibbles c
  simp only [hiNib_append, loNib_append]
  cases h using nibbleCases with
  | x0 => exact decode0_encodes l b t
  | x1 => exact decode1_encodes l b t
  | x4 => exact .ok 0#1 (bccOf_isAlias l _) (encodeWith_bccOf_d8 0#1 l b).symm
  | x5 => exact decode5_encodes l b t
  | x6 => exact decode6_encodes l b t
  | x7 => exact decode7_encodes l b t
  | x2 | x3 | x8 | x9 | xA | xB | xC | xD | xE | xF => exact .ok 0#1 rfl rfl

/-! ### The obligations -/

/-- Settles O45: bytes after an encoding play no part. -/
theorem decodeReadsEncode : Obligations.DecodeReadsEncode := fun _ ign rest ha =>
  decode_encodeWith_append ign ha rest

/-- Settles O46: every routine of the decoder reads encodings alone. -/
theorem encodeReadsDecode : Obligations.EncodeReadsDecode := fun l i n h =>
  show (Decoded.ok i n).Encodes l from h ▸ decode_encodes l

/-- Bytes that decode are an encoding, whose length the decoder answers, and bytes after it. -/
theorem exists_encoding_of_decode {l : List Byte} {i : Instr} {n : Nat} (h : decode l = .ok i n) :
    ∃ ign rest, l = encodeWith ign i ++ rest ∧ n = (encodeWith ign i).length := by
  obtain ⟨ha, ign, he⟩ := encodeReadsDecode l i n h
  have hl : l = encodeWith ign i ++ l.drop n := by rw [← he, List.take_append_drop]
  have hd := decode_encodeWith_append ign ha (l.drop n)
  rw [← hl, h, Decoded.ok.injEq] at hd
  exact ⟨ign, l.drop n, hl, hd.2⟩

open Laws Laws.EncodedLength in
/-- The length rule at every instruction, from its lemma for each. -/
theorem encodedLength (i : Instr) : EncodedLength.Statement i :=
  i.casesOn
    movBImm movBReg movBLdInd movBLdDisp16 movBLdDisp24 movBLdInc movBLdAbs8 movBLdAbs16 movBLdAbs24 movBStInd
    movBStDisp16 movBStDisp24 movBStDec movBStAbs8 movBStAbs16 movBStAbs24 movWImm movWReg movWLdInd movWLdDisp16
    movWLdDisp24 movWLdInc movWLdAbs16 movWLdAbs24 movWStInd movWStDisp16 movWStDisp24 movWStDec movWStAbs16
    movWStAbs24 movLImm movLReg movLLdInd movLLdDisp16 movLLdDisp24 movLLdInc movLLdAbs16 movLLdAbs24 movLStInd
    movLStDisp16 movLStDisp24 movLStDec movLStAbs16 movLStAbs24 pushW pushL popW popL addBImm addBReg addWImm
    addWReg addLImm addLReg subBReg subWImm subWReg subLImm subLReg addxBImm addxBReg subxBImm subxBReg incB incW1
    incW2 incL1 incL2 decB decW1 decW2 decL1 decL2 adds1 adds2 adds4 subs1 subs2 subs4 daa das mulxuB mulxuW divxuB
    divxuW mulxsB mulxsW divxsB divxsW cmpBImm cmpBReg cmpWImm cmpWReg cmpLImm cmpLReg negB negW negL extuW extuL
    extsW extsL andBImm andBReg andWImm andWReg andLImm andLReg orBImm orBReg orWImm orWReg orLImm orLReg xorBImm
    xorBReg xorWImm xorWReg xorLImm xorLReg notB notW notL shalB shalW shalL sharB sharW sharL shllB shllW shllL
    shlrB shlrW shlrL rotlB rotlW rotlL rotrB rotrW rotrL rotxlB rotxlW rotxlL rotxrB rotxrW rotxrL bsetImmReg
    bsetImmInd bsetImmAbs8 bsetRnReg bsetRnInd bsetRnAbs8 bclrImmReg bclrImmInd bclrImmAbs8 bclrRnReg bclrRnInd
    bclrRnAbs8 bnotImmReg bnotImmInd bnotImmAbs8 bnotRnReg bnotRnInd bnotRnAbs8 btstImmReg btstImmInd btstImmAbs8
    btstRnReg btstRnInd btstRnAbs8 bandReg bandInd bandAbs8 biandReg biandInd biandAbs8 borReg borInd borAbs8
    biorReg biorInd biorAbs8 bxorReg bxorInd bxorAbs8 bixorReg bixorInd bixorAbs8 bldReg bldInd bldAbs8 bildReg
    bildInd bildAbs8 bstReg bstInd bstAbs8 bistReg bistInd bistAbs8 bra brn bhi bls bcc bcs bne beq bvc bvs bpl bmi
    bge blt bgt ble jmpInd jmpAbs24 jmpMemInd bsr jsrInd jsrAbs24 jsrMemInd ldcBImm ldcBReg ldcWInd ldcWDisp16
    ldcWDisp24 ldcWInc ldcWAbs16 ldcWAbs24 stcBReg stcWInd stcWDisp16 stcWDisp24 stcWDec stcWAbs16 stcWAbs24 andc
    orc xorc trapa rts rte sleep nop eepmovB eepmovW

/-- Settles O47: what decodes begins with an encoding, whose length the rule gives. -/
theorem lengthRule : Obligations.LengthRule := by
  refine ⟨fun l i n h => ?_, encodedLength⟩
  obtain ⟨ign, rest, rfl, rfl⟩ := exists_encoding_of_decode h
  obtain ⟨m, -, hm, rfl⟩ := encodedLength i ign rest
  exact ⟨hm, by simp⟩

/-- Two names of the same bytes decode alike (R151). -/
theorem decode_encode_of_eq {i j : Instr} (h : encode i = encode j) (hj : j.isAlias = false) :
    decode (encode i) = .ok j (encode j).length := by
  rw [h]
  exact decode_encodeWith 0#1 hj

/-- Settles O8: each name has the bytes and the meaning of its MOV form, by definition. -/
theorem pushPopAreMoves : Obligations.PushPopAreMoves :=
  ⟨fun _ => ⟨rfl, decode_encode_of_eq rfl rfl, fun _ => rfl⟩, fun _ => ⟨rfl, decode_encode_of_eq rfl rfl, fun _ => rfl⟩,
    fun _ => ⟨rfl, decode_encode_of_eq rfl rfl, fun _ => rfl⟩,
    fun _ => ⟨rfl, decode_encode_of_eq rfl rfl, fun _ => rfl⟩⟩

/-- Settles O60: twenty words, each decoded. -/
theorem decodedWords : Obligations.DecodedWords := by
  unfold Obligations.DecodedWords
  decide

end Sys2Proof
end

section
/-!
SUPPORT. Moves into a register, and to and from memory without a change of the address register
(spec/40_data_transfer.md R170 to R182): when an instruction gives or stores its value, and the obligations about them.
-/

namespace Sys2Proof.Machine

variable {i : Instr} {s : State}

/-! ### Results in a register -/

/-- An instruction whose meaning is a result in a register gives it, with the flags of the value. -/
theorem givesR8_of_result {k : RegNum} {v : Byte} (h : exec i s = .next (resultR8 s k v)) :
    GivesR8 i s k v (signZeroClearV v) :=
  completes_load h ⟨onlyR8_writeR8 s k v, rfl⟩

theorem givesR16_of_result {k : RegNum} {v : Word} (h : exec i s = .next (resultR16 s k v)) :
    GivesR16 i s k v (signZeroClearV v) :=
  completes_load h ⟨onlyR16_writeR16 s k v, rfl⟩

theorem givesEr_of_result {n : ErNum} {v : Long} (h : exec i s = .next (resultEr s n v)) :
    GivesEr i s n v (signZeroClearV v) :=
  completes_load h ⟨onlyEr_writeEr s n v, rfl⟩

/-! ### Loads -/

/-- A sequence whose first part gives a value goes on with it. -/
theorem andThen_of_next {α β : Type} {r : Res α} {f : α → Res β} {v : α} (h : r = .next v) : andThen r f = f v := by
  rw [h, andThen_next]

theorem givesR8_of_load {a : Addr} {k : RegNum} {v : Byte}
    (h : exec i s = andThen (readByte s a) fun v => .next (resultR8 s k v)) (hr : readByte s a = .next v) :
    GivesR8 i s k v (signZeroClearV v) :=
  givesR8_of_result (h.trans (andThen_of_next hr))

theorem givesR16_of_load {a : Addr} {k : RegNum} {v : Word}
    (h : exec i s = andThen (readWord s a) fun v => .next (resultR16 s k v)) (hr : readWord s a = .next v) :
    GivesR16 i s k v (signZeroClearV v) :=
  givesR16_of_result (h.trans (andThen_of_next hr))

theorem givesEr_of_load {a : Addr} {n : ErNum} {v : Long}
    (h : exec i s = andThen (readLong s a) fun v => .next (resultEr s n v)) (hr : readLong s a = .next v) :
    GivesEr i s n v (signZeroClearV v) :=
  givesEr_of_result (h.trans (andThen_of_next hr))

/-! ### Stores -/

/-- A write, then the flags of the value stored: the registers are as before. -/
theorem Writes.stores {f : State → Res State} {cells : List (Addr × Byte)} {w : Nat} {v : BitVec w}
    (hf : Writes f cells) (h : exec i s = andThen (f s) fun u => .next (u.setCcr (ccrPutNZV0 u.ccr v)))
    (hw : Writable s cells) : Stores i s cells (signZeroClearV v) := by
  obtain ⟨u, hu⟩ := (hf.complete_iff s).2 hw
  exact completes_store (h.trans (andThen_of_next hu)) (hf.memoryOnly hu) (hf.memoryAfter hu)

theorem stores_of_storeByte {a : Addr} {v : Byte} (h : exec i s = storeByte s a v) :
    Writable s [(a, v)] → Stores i s [(a, v)] (signZeroClearV v) :=
  (writeByte_writes a v).stores h

theorem stores_of_storeWord {a : Addr} {v : Word} (h : exec i s = storeWord s a v) :
    Writable s (wordCells a v) → Stores i s (wordCells a v) (signZeroClearV v) :=
  (writeWord_writes a v).stores h

theorem stores_of_storeLong {a : Addr} {v : Long} (h : exec i s = storeLong s a v) :
    Writable s (longCells a v) → Stores i s (longCells a v) (signZeroClearV v) :=
  (writeLong_writes a v).stores h

/-! ### The obligations -/

/-- Settles O1: each form is a result in its register. -/
theorem moveToRegister : Obligations.MoveToRegister := fun _ =>
  ⟨fun _ _ => givesR8_of_result rfl, fun _ _ => givesR8_of_result rfl,
    fun _ _ => givesR16_of_result rfl, fun _ _ => givesR16_of_result rfl,
    fun _ _ => givesEr_of_result rfl, fun _ _ => givesEr_of_result rfl⟩

/-- Settles O2: each form reads its operand and gives it in its register; the forms stand in the order of the
statement, by their sizes. -/
theorem loadFromMemory : Obligations.LoadFromMemory := fun _ =>
  ⟨fun _ _ _ => givesR8_of_load rfl, fun _ _ _ _ => givesR8_of_load rfl, fun _ _ _ _ => givesR8_of_load rfl,
    fun _ _ _ => givesR8_of_load rfl, fun _ _ _ => givesR8_of_load rfl, fun _ _ _ => givesR8_of_load rfl,
    fun _ _ _ => givesR16_of_load rfl, fun _ _ _ _ => givesR16_of_load rfl, fun _ _ _ _ => givesR16_of_load rfl,
    fun _ _ _ => givesR16_of_load rfl, fun _ _ _ => givesR16_of_load rfl,
    fun _ _ _ => givesEr_of_load rfl, fun _ _ _ _ => givesEr_of_load rfl, fun _ _ _ _ => givesEr_of_load rfl,
    fun _ _ _ => givesEr_of_load rfl, fun _ _ _ => givesEr_of_load rfl⟩

/-- Settles O4: each form is a store of its register; the forms stand in the order of the statement, by their sizes. -/
theorem storeToMemory : Obligations.StoreToMemory := fun _ =>
  ⟨fun _ _ => stores_of_storeByte rfl, fun _ _ _ => stores_of_storeByte rfl, fun _ _ _ => stores_of_storeByte rfl,
    fun _ _ => stores_of_storeByte rfl, fun _ _ => stores_of_storeByte rfl, fun _ _ => stores_of_storeByte rfl,
    fun _ _ => stores_of_storeWord rfl, fun _ _ _ => stores_of_storeWord rfl, fun _ _ _ => stores_of_storeWord rfl,
    fun _ _ => stores_of_storeWord rfl, fun _ _ => stores_of_storeWord rfl,
    fun _ _ => stores_of_storeLong rfl, fun _ _ _ => stores_of_storeLong rfl, fun _ _ _ => stores_of_storeLong rfl,
    fun _ _ => stores_of_storeLong rfl, fun _ _ => stores_of_storeLong rfl⟩

end Sys2Proof.Machine
end

section
/-!
SUPPORT. PUSH followed by POP (spec/40_data_transfer.md R188), from the obligations about pre-decrement stores and
post-increment loads.
-/

namespace Sys2Proof.Machine

variable {s t u : State}

/-- A register part needs only the register that it is a part of. -/
theorem readR16_of_readEr {k : RegNum} (h : readEr t (erOf k) = readEr s (erOf k)) : readR16 t k = readR16 s k := by
  simp only [readR16, h]

/-- SP moved down by `x`, then up by `x` beside a register written: that register alone differs. -/
theorem onlyR16_of_sp_restored {k : RegNum} {v : Word} {x : Long} (hd : OnlyEr s t spNum (readEr s spNum - x))
    (hu : OnlyR16AndEr t u k v spNum (readEr t spNum + x)) : OnlyR16 s u k v := by
  obtain ⟨hsp, hkept⟩ := hd
  obtain ⟨hv, hsp', hkept'⟩ := hu
  rw [hsp, BitVec.sub_add_cancel] at hsp'
  refine ⟨hv, fun j hj => ?_⟩
  by_cases hn : erOf j = spNum
  · exact readR16_of_readEr (hn ▸ hsp')
  · exact (hkept' j hj hn).trans (readR16_of_readEr (hkept _ hn))

theorem onlyEr_of_sp_restored {n : ErNum} {v x : Long} (hd : OnlyEr s t spNum (readEr s spNum - x))
    (hu : OnlyTwoEr t u n v spNum (readEr t spNum + x)) : OnlyEr s u n v := by
  obtain ⟨hsp, hkept⟩ := hd
  obtain ⟨hv, hsp', hkept'⟩ := hu
  rw [hsp, BitVec.sub_add_cancel] at hsp'
  refine ⟨hv, fun m hm => ?_⟩
  by_cases hn : m = spNum
  · exact hn ▸ hsp'
  · exact (hkept' m hm hn).trans (hkept m hn)

/-- Settles O7: POP reads the cells that PUSH stored, which lie apart, and takes back its decrement of SP. -/
theorem pushThenPopRestores : Obligations.PushThenPopRestores := by
  intro s
  obtain ⟨-, -, -, pushW, pushL⟩ := storePreDecrement s
  refine ⟨fun rn rm hn hm hw => ?_, fun ern erm hn hm hw => ?_⟩
  · obtain ⟨t, ht, -, hmem, -, hsp, hpc⟩ := pushW rn hn hw
    have hread : readWord t (eaInd t spNum) = .next (readR16 s rn) := by
      rw [eaInd, hsp.1]
      exact hmem.readWord_cells (wordCells_apart _ _ _) (List.Subset.refl _)
    obtain ⟨-, -, -, popW, -⟩ := loadPostIncrement t
    obtain ⟨u, hu, -, -, -, hregs, hpc'⟩ := popW rm _ hm hread
    exact ⟨t, u, ht, hu, onlyR16_of_sp_restored hsp hregs, hpc'.trans hpc⟩
  · obtain ⟨t, ht, -, hmem, -, hsp, hpc⟩ := pushL ern hn hw
    have hread : readLong t (eaInd t spNum) = .next (readEr s ern) := by
      rw [eaInd, hsp.1]
      exact hmem.readLong_cells (longCells_apart _ _ _) (List.Subset.refl _)
    obtain ⟨-, -, -, -, popL⟩ := loadPostIncrement t
    obtain ⟨u, hu, -, -, -, hregs, hpc'⟩ := popL erm _ hm hread
    exact ⟨t, u, ht, hu, onlyEr_of_sp_restored hsp hregs, hpc'.trans hpc⟩

end Sys2Proof.Machine
end

section
/-!
SUPPORT. The refusal registerOverlap (spec/40_data_transfer.md R187, spec/45_branch.md R380; D17, log 15): no shared
operation answers it, so that only the instructions that ask for an overlap do; and the obligation about it.
-/

namespace Sys2Proof.Machine

/-! ### Parts of a step that never answer it -/

/-- This part of a step does not answer the refusal registerOverlap. -/
def NoOverlap {α : Type} (r : Res α) : Prop := r ≠ .refused .registerOverlap

theorem NoOverlap.next {α : Type} (a : α) : NoOverlap (.next a : Res α) := nofun

theorem NoOverlap.bind {α β : Type} {r : Res α} {f : α → Res β} (h : NoOverlap r) (k : ∀ a, NoOverlap (f a)) :
    NoOverlap (andThen r f) := by
  cases r with
  | next a => exact k a
  | fault e => exact nofun
  | refused e => simpa [NoOverlap] using h

/-- A last part that gives a next state in any case. -/
theorem NoOverlap.map {α β : Type} {r : Res α} {f : α → β} (h : NoOverlap r) :
    NoOverlap (andThen r fun a => .next (f a)) :=
  h.bind fun a => .next (f a)

section
variable (s : State) (a : Addr)

theorem readByte_noOverlap : NoOverlap (readByte s a) := by
  unfold readByte
  split
  · exact nofun
  · exact nofun
  · split <;> exact nofun

theorem readWord_noOverlap : NoOverlap (readWord s a) :=
  (readByte_noOverlap s _).bind fun _ => (readByte_noOverlap s _).map

theorem readLong_noOverlap : NoOverlap (readLong s a) :=
  (readWord_noOverlap s _).bind fun _ => (readWord_noOverlap s _).map

theorem writeByte_noOverlap (v : Byte) : NoOverlap (writeByte s a v) := by
  unfold writeByte
  split <;> exact nofun

theorem writeWord_noOverlap (v : Word) : NoOverlap (writeWord s a v) :=
  (writeByte_noOverlap s _ _).bind fun u => writeByte_noOverlap u _ _

theorem writeLong_noOverlap (v : Long) : NoOverlap (writeLong s a v) :=
  (writeWord_noOverlap s _ _).bind fun u => writeWord_noOverlap u _ _

theorem storeByte_noOverlap (v : Byte) : NoOverlap (storeByte s a v) := (writeByte_noOverlap s a v).map

theorem storeWord_noOverlap (v : Word) : NoOverlap (storeWord s a v) := (writeWord_noOverlap s a v).map

theorem storeLong_noOverlap (v : Long) : NoOverlap (storeLong s a v) := (writeLong_noOverlap s a v).map

theorem loadCcr_noOverlap (u : State) : NoOverlap (loadCcr s a u) := (readWord_noOverlap s a).map

theorem saveCcr_noOverlap : NoOverlap (saveCcr s a) := writeWord_noOverlap _ a _

theorem jumpTo_noOverlap : NoOverlap (jumpTo s a) := by
  unfold jumpTo
  split <;> exact nofun

theorem branchIf_noOverlap (k : Cond) (d : BranchDisp) : NoOverlap (branchIf s k d) := by
  unfold branchIf
  split
  · exact jumpTo_noOverlap s _
  · exact .next s

theorem readEntry_noOverlap : NoOverlap (readEntry s a) := by
  unfold readEntry
  split
  · exact (readLong_noOverlap s a).map
  · exact (readWord_noOverlap s a).map

theorem pushReturn_noOverlap : NoOverlap (pushReturn s) := by
  unfold pushReturn
  split
  · exact writeLong_noOverlap _ _ _
  · exact writeWord_noOverlap _ _ _

/-- A subroutine call: the return address is pushed, then control goes to the target. -/
theorem pushReturn_jumpTo_noOverlap : NoOverlap (andThen (pushReturn s) fun u => jumpTo u a) :=
  (pushReturn_noOverlap s).bind fun u => jumpTo_noOverlap u a

theorem popReturn_noOverlap : NoOverlap (popReturn s) := by
  unfold popReturn
  split
  · exact (readLong_noOverlap s _).bind fun _ => jumpTo_noOverlap _ _
  · exact (readWord_noOverlap s _).bind fun _ => jumpTo_noOverlap _ _

theorem exceptionEntry_noOverlap (v : VectorNum) : NoOverlap (exceptionEntry v s) :=
  (writeLong_noOverlap _ _ _).bind fun _ => (readEntry_noOverlap _ _).bind fun _ => jumpTo_noOverlap _ _

theorem exceptionReturn_noOverlap : NoOverlap (exceptionReturn s) :=
  (readLong_noOverlap s _).bind fun _ => jumpTo_noOverlap _ _

theorem moveBlock_noOverlap (n : Nat) (put : Long → Nat → Long) : NoOverlap (moveBlock s n put) := by
  induction n generalizing s with
  | zero => exact .next s
  | succ n ih => exact (readByte_noOverlap s _).bind fun b => (writeByte_noOverlap s _ b).bind fun u => ih _

end

/-! ### Instructions -/

/-- The instruction answers the refusal registerOverlap at `s` exactly if it is not well formed. -/
def OverlapRefused (i : Instr) (s : State) : Prop := exec i s = .refused .registerOverlap ↔ i.wellFormed = false

variable {i : Instr} {s : State}

/-- A well-formed instruction whose meaning is made of shared operations. -/
theorem OverlapRefused.never (h : NoOverlap (exec i s)) (hw : i.wellFormed = true := by rfl) :
    OverlapRefused i s :=
  iff_of_false h (hw ▸ nofun)

/-- An instruction that is refused for the registers it names, and otherwise made of shared operations. -/
theorem OverlapRefused.unless {c : Bool} {r : Res State} (h : NoOverlap r)
    (he : exec i s = if c then .refused .registerOverlap else r := by rfl) (hw : i.wellFormed = !c := by rfl) :
    OverlapRefused i s := by
  rw [OverlapRefused, he, hw]
  cases c with
  | true => exact iff_of_true rfl rfl
  | false => exact iff_of_false h nofun

/-- The cases stand by the shape of their meaning, those that name overlapping registers first. -/
theorem exec_overlapRefused (i : Instr) (s : State) : OverlapRefused i s := by
  cases i with
  | movBLdInc => exact .unless (readByte_noOverlap s _).map
  | movWLdInc | popW => exact .unless (readWord_noOverlap s _).map
  | movLLdInc | popL => exact .unless (readLong_noOverlap s _).map
  | movBStDec => exact .unless (storeByte_noOverlap _ _ _)
  | movWStDec | pushW => exact .unless (storeWord_noOverlap _ _ _)
  | movLStDec | pushL => exact .unless (storeLong_noOverlap _ _ _)
  | jsrInd => exact .unless (pushReturn_jumpTo_noOverlap s _)
  | movBLdInd | movBLdDisp16 | movBLdDisp24 | movBLdAbs8 | movBLdAbs16 | movBLdAbs24
  | btstImmInd | btstImmAbs8 | btstRnInd | btstRnAbs8 | bandInd | bandAbs8 | biandInd | biandAbs8 | borInd | borAbs8
  | biorInd | biorAbs8 | bxorInd | bxorAbs8 | bixorInd | bixorAbs8 | bldInd | bldAbs8 | bildInd | bildAbs8 =>
    exact .never (readByte_noOverlap s _).map
  | movWLdInd | movWLdDisp16 | movWLdDisp24 | movWLdAbs16 | movWLdAbs24 =>
    exact .never (readWord_noOverlap s _).map
  | movLLdInd | movLLdDisp16 | movLLdDisp24 | movLLdAbs16 | movLLdAbs24 =>
    exact .never (readLong_noOverlap s _).map
  | movBStInd | movBStDisp16 | movBStDisp24 | movBStAbs8 | movBStAbs16 | movBStAbs24 =>
    exact .never (storeByte_noOverlap s _ _)
  | movWStInd | movWStDisp16 | movWStDisp24 | movWStAbs16 | movWStAbs24 =>
    exact .never (storeWord_noOverlap s _ _)
  | movLStInd | movLStDisp16 | movLStDisp24 | movLStAbs16 | movLStAbs24 =>
    exact .never (storeLong_noOverlap s _ _)
  | bsetImmInd | bsetImmAbs8 | bsetRnInd | bsetRnAbs8 | bclrImmInd | bclrImmAbs8 | bclrRnInd | bclrRnAbs8
  | bnotImmInd | bnotImmAbs8 | bnotRnInd | bnotRnAbs8 | bstInd | bstAbs8 | bistInd | bistAbs8 =>
    exact .never ((readByte_noOverlap s _).bind fun _ => writeByte_noOverlap s _ _)
  | bra d => exact .never (branchIf_noOverlap s .bra d)
  | brn d => exact .never (branchIf_noOverlap s .brn d)
  | bhi | bls | bcc | bcs | bne | beq | bvc | bvs | bpl | bmi | bge | blt | bgt | ble =>
    exact .never (branchIf_noOverlap s _ _)
  | jmpInd | jmpAbs24 => exact .never (jumpTo_noOverlap s _)
  | jmpMemInd => exact .never ((readEntry_noOverlap s _).bind fun a => jumpTo_noOverlap s a)
  | bsr | jsrAbs24 => exact .never (pushReturn_jumpTo_noOverlap s _)
  | jsrMemInd => exact .never ((readEntry_noOverlap s _).bind fun a => pushReturn_jumpTo_noOverlap s a)
  | rts => exact .never (popReturn_noOverlap s)
  | ldcWInd | ldcWDisp16 | ldcWDisp24 | ldcWInc | ldcWAbs16 | ldcWAbs24 =>
    exact .never (loadCcr_noOverlap s _ _)
  | stcWInd | stcWDisp16 | stcWDisp24 | stcWDec | stcWAbs16 | stcWAbs24 => exact .never (saveCcr_noOverlap _ _)
  | trapa => exact .never (exceptionEntry_noOverlap s _)
  | rte => exact .never (exceptionReturn_noOverlap s)
  | eepmovB | eepmovW => exact .never (moveBlock_noOverlap s _ _)
  -- Every other instruction answers a next state, whatever its operands are.
  | _ => exact .never (.next _)

/-- Settles O6: the instructions with a test for overlap are refused by it, and no shared operation answers this
refusal. -/
theorem overlapRefusedExactly : Obligations.OverlapRefusedExactly := exec_overlapRefused

end Sys2Proof.Machine
end

section
/-!
SUPPORT. How an instruction that writes one register and CCR completes, and the results and flags of additions and
subtractions on exact integers (spec/00_scope.md R15, R16; spec/41_arithmetic.md R210 to R225, R236 to R241), with the
obligations about them.
-/

namespace Sys2Proof.Machine

variable {i : Instr} {s t : State}

/-! ### Completing -/

section
variable {flags : List (CcrBit × Bool)} {c : Byte} {d : Nat}

/-- Only registers, CCR and the counter of free values differ. -/
theorem completes_of_registers {p : State → Prop} (h : exec i s = .next t) (hf : FlagsAfter s t flags) (hp : p t)
    (hm : t.mem = s.mem := by rfl) (hs : t.stored = s.stored := by rfl)
    (he : EnvKept s t := by exact ⟨rfl, rfl, rfl, rfl⟩) : Completes i s flags [] p :=
  ⟨t, h, hf, memoryAfter_nil hm hs he.platform, he, hp⟩

theorem givesR8_of_write {k : RegNum} {v : Byte} (hf : FlagsAfter s (s.setCcr c) flags)
    (h : exec i s = .next (((writeR8 s k v).setCcr c).drawn d)) : GivesR8 i s k v flags :=
  completes_of_registers h hf ⟨onlyR8_writeR8 s k v, rfl⟩

theorem givesR16_of_write {k : RegNum} {v : Word} (hf : FlagsAfter s (s.setCcr c) flags)
    (h : exec i s = .next (((writeR16 s k v).setCcr c).drawn d)) : GivesR16 i s k v flags :=
  completes_of_registers h hf ⟨onlyR16_writeR16 s k v, rfl⟩

theorem givesEr_of_write {n : ErNum} {v : Long} (hf : FlagsAfter s (s.setCcr c) flags)
    (h : exec i s = .next (((writeEr s n v).setCcr c).drawn d)) : GivesEr i s n v flags :=
  completes_of_registers h hf ⟨onlyEr_writeEr s n v, rfl⟩

end

/-! ### The flags of a sum or a difference -/

/-- The five flags of an addition or a subtraction, as a claim lists them. -/
def Arith.flags {w : Nat} (r : Arith w) : List (CcrBit × Bool) :=
  [(.h, r.h), (.n, r.n), (.z, r.z), (.v, r.v), (.c, r.c)]

section
variable {w : Nat} (r : Arith w)

/-- ADD, SUB, CMP and NEG write the five flags. -/
theorem flagsAfter_ccrPutArith : FlagsAfter s (s.setCcr (ccrPutArith s.ccr r)) r.flags := by
  intro f
  rw [setCcr_ccr, ccrGet_ccrPutArith]
  cases f <;> rfl

/-- ADDX and SUBX write them with Z sticky. -/
theorem flagsAfter_ccrPutArithX :
    FlagsAfter s (s.setCcr (ccrPutArithX s.ccr r)) (stickyZ (ccrGet s.ccr .z) r.flags) :=
  flagsAfter_ccrPutArith _

/-- The flags after INC or DEC. -/
theorem ccrGet_ccrPutNZV (ccr : Byte) (f : CcrBit) :
    ccrGet (ccrPutNZV ccr r) f =
      if f = .v then r.v else if f = .z then r.z else if f = .n then r.n else ccrGet ccr f := by
  simp [ccrPutNZV]

theorem flagsAfter_ccrPutNZV : FlagsAfter s (s.setCcr (ccrPutNZV s.ccr r)) (onlyNZV r.flags) := by
  intro f
  rw [setCcr_ccr, ccrGet_ccrPutNZV]
  cases f <;> rfl

end

/-- This result and these flags are those of `r`. -/
structure Arith.Is {w : Nat} (r : Arith w) (v : BitVec w) (flags : List (CcrBit × Bool)) : Prop where
  result : r.result = v
  flags : r.flags = flags

/-- The machine's sum is the sum on exact integers. -/
theorem addN_is {w : Nat} (a b : BitVec w) (c : Bool) (hw : w = 8 ∨ w = 16 ∨ w = 32 := by decide) :
    (addN a b c).Is (sumOf a b c) (sumFlags a b c) where
  result := (sumOf_eq a b c).symm
  flags := by
    have hn : (addN a b c).n = decide ((sumOf a b c).toInt < 0) := by rw [← msb_eq_neg, sumOf_eq]; rfl
    have hz : (addN a b c).z = decide ((sumOf a b c).toNat = 0) := by rw [← beq_zero_eq_toNat, sumOf_eq]; rfl
    have hc : (addN a b c).c = carryOut w a b c := by
      simp only [addN, carryOut, Nat.mod_eq_of_lt a.isLt, Nat.mod_eq_of_lt b.isLt]
    rw [Arith.flags, hn, hz, hc, addN_v hw]
    rfl

/-- A borrow is a difference below 0. -/
theorem borrowIn_eq {w : Nat} (k : Nat) (a b : BitVec w) (c : Bool) :
    borrowIn k a b c = decide (a.toNat % 2 ^ k < b.toNat % 2 ^ k + c.toNat) :=
  decide_eq_decide.2 (by zify; omega)

/-- The machine's difference is the difference on exact integers. -/
theorem subN_is {w : Nat} (a b : BitVec w) (c : Bool) (hw : w = 8 ∨ w = 16 ∨ w = 32 := by decide) :
    (subN a b c).Is (differenceOf a b c) (differenceFlags a b c) where
  result := (differenceOf_eq a b c).symm
  flags := by
    have hn : (subN a b c).n = decide ((differenceOf a b c).toInt < 0) := by rw [← msb_eq_neg, differenceOf_eq]; rfl
    have hz : (subN a b c).z = decide ((differenceOf a b c).toNat = 0) := by
      rw [← beq_zero_eq_toNat, differenceOf_eq]; rfl
    have hh : (subN a b c).h = borrowIn (w - 4) a b c := (borrowIn_eq _ _ _ _).symm
    have hc : (subN a b c).c = borrowIn w a b c := by
      simp only [subN, borrowIn_eq, Nat.mod_eq_of_lt a.isLt, Nat.mod_eq_of_lt b.isLt]
    rw [Arith.flags, hn, hz, hh, hc, subN_v hw]
    rfl

/-! ### Instructions that write a sum or a difference -/

section
variable {w : Nat} {k : RegNum} {n : ErNum} {flags : List (CcrBit × Bool)}

theorem givesR8_of_arith {r : Arith 8} {v : Byte} (h : exec i s = .next (arithR8 s k r)) (hr : r.Is v flags) :
    GivesR8 i s k v flags := by
  obtain ⟨rfl, rfl⟩ := hr
  exact givesR8_of_write (d := 0) (flagsAfter_ccrPutArith r) h

theorem givesR16_of_arith {r : Arith 16} {v : Word} (h : exec i s = .next (arithR16 s k r)) (hr : r.Is v flags) :
    GivesR16 i s k v flags := by
  obtain ⟨rfl, rfl⟩ := hr
  exact givesR16_of_write (d := 0) (flagsAfter_ccrPutArith r) h

theorem givesEr_of_arith {r : Arith 32} {v : Long} (h : exec i s = .next (arithEr s n r)) (hr : r.Is v flags) :
    GivesEr i s n v flags := by
  obtain ⟨rfl, rfl⟩ := hr
  exact givesEr_of_write (d := 0) (flagsAfter_ccrPutArith r) h

theorem givesFlags_of_compare {r : Arith w} {v : BitVec w} (h : exec i s = .next (compareFlags s r))
    (hr : r.Is v flags) : GivesFlags i s flags := by
  obtain ⟨rfl, rfl⟩ := hr
  exact completes_of_registers h (flagsAfter_ccrPutArith r) ⟨rfl, rfl⟩

theorem givesR8_of_arithX {r : Arith 8} {v : Byte} (h : exec i s = .next (arithXR8 s k r)) (hr : r.Is v flags) :
    GivesR8 i s k v (stickyZ (ccrGet s.ccr .z) flags) := by
  obtain ⟨rfl, rfl⟩ := hr
  exact givesR8_of_write (d := 0) (flagsAfter_ccrPutArithX r) h

theorem givesR8_of_count {r : Arith 8} {v : Byte} (h : exec i s = .next (countR8 s k r)) (hr : r.Is v flags) :
    GivesR8 i s k v (onlyNZV flags) := by
  obtain ⟨rfl, rfl⟩ := hr
  exact givesR8_of_write (d := 0) (flagsAfter_ccrPutNZV r) h

theorem givesR16_of_count {r : Arith 16} {v : Word} (h : exec i s = .next (countR16 s k r)) (hr : r.Is v flags) :
    GivesR16 i s k v (onlyNZV flags) := by
  obtain ⟨rfl, rfl⟩ := hr
  exact givesR16_of_write (d := 0) (flagsAfter_ccrPutNZV r) h

theorem givesEr_of_count {r : Arith 32} {v : Long} (h : exec i s = .next (countEr s n r)) (hr : r.Is v flags) :
    GivesEr i s n v (onlyNZV flags) := by
  obtain ⟨rfl, rfl⟩ := hr
  exact givesEr_of_write (d := 0) (flagsAfter_ccrPutNZV r) h

end

/-- ADDS and SUBS write the register alone. -/
theorem givesEr_of_writeEr {n : ErNum} {v : Long} {z : Int} (h : exec i s = .next (writeEr s n v))
    (hv : v = BitVec.ofInt 32 z) : GivesEr i s n (BitVec.ofInt 32 z) [] := by
  subst hv
  exact givesEr_of_write (c := s.ccr) (d := 0) (flagsAfter_nil rfl) h

/-- A value increased by a constant, as a number. -/
theorem add_eq_ofInt {w : Nat} (v : BitVec w) (k : Nat) : v + BitVec.ofNat w k = BitVec.ofInt w (v.toNat + k) := by
  simp [BitVec.ofInt_add]

/-- A value decreased by a constant, as a number. -/
theorem sub_eq_ofInt {w : Nat} (v : BitVec w) (k : Nat) : v - BitVec.ofNat w k = BitVec.ofInt w (v.toNat - k) := by
  simp [Int.sub_eq_add_neg, BitVec.ofInt_add, BitVec.ofInt_neg, BitVec.sub_eq_add_neg]

/-! ### The obligations -/

/-- Settles O9: each form writes a sum with its flags. -/
theorem addWritesSum : Obligations.AddWritesSum := fun _ =>
  ⟨fun _ _ => givesR8_of_arith rfl (addN_is _ _ _), fun _ _ => givesR8_of_arith rfl (addN_is _ _ _),
    fun _ _ => givesR16_of_arith rfl (addN_is _ _ _), fun _ _ => givesR16_of_arith rfl (addN_is _ _ _),
    fun _ _ => givesEr_of_arith rfl (addN_is _ _ _), fun _ _ => givesEr_of_arith rfl (addN_is _ _ _)⟩

/-- Settles O10: SUB and NEG write a difference with its flags, CMP the flags alone; the forms stand in the order of
the statement. -/
theorem subtractCompareNegate : Obligations.SubtractCompareNegate := fun _ =>
  ⟨fun _ _ => givesR8_of_arith rfl (subN_is _ _ _),
    fun _ _ => givesR16_of_arith rfl (subN_is _ _ _), fun _ _ => givesR16_of_arith rfl (subN_is _ _ _),
    fun _ _ => givesEr_of_arith rfl (subN_is _ _ _), fun _ _ => givesEr_of_arith rfl (subN_is _ _ _),
    fun _ _ => givesFlags_of_compare rfl (subN_is _ _ _), fun _ _ => givesFlags_of_compare rfl (subN_is _ _ _),
    fun _ _ => givesFlags_of_compare rfl (subN_is _ _ _), fun _ _ => givesFlags_of_compare rfl (subN_is _ _ _),
    fun _ _ => givesFlags_of_compare rfl (subN_is _ _ _), fun _ _ => givesFlags_of_compare rfl (subN_is _ _ _),
    fun _ => givesR8_of_arith rfl (subN_is _ _ _), fun _ => givesR16_of_arith rfl (subN_is _ _ _),
    fun _ => givesEr_of_arith rfl (subN_is _ _ _)⟩

/-- Settles O11: the carry or borrow of each form is the old C. -/
theorem addSubtractWithCarry : Obligations.AddSubtractWithCarry := fun _ =>
  ⟨fun _ _ => givesR8_of_arithX rfl (addN_is _ _ _), fun _ _ => givesR8_of_arithX rfl (addN_is _ _ _),
    fun _ _ => givesR8_of_arithX rfl (subN_is _ _ _), fun _ _ => givesR8_of_arithX rfl (subN_is _ _ _)⟩

/-- Settles O13: each form writes the sum or the difference of its register and its constant. -/
theorem incrementDecrement : Obligations.IncrementDecrement := fun _ =>
  ⟨fun _ => givesR8_of_count rfl (addN_is _ _ _), fun _ => givesR8_of_count rfl (subN_is _ _ _),
    fun _ => givesR16_of_count rfl (addN_is _ _ _), fun _ => givesR16_of_count rfl (subN_is _ _ _),
    fun _ => givesR16_of_count rfl (addN_is _ _ _), fun _ => givesR16_of_count rfl (subN_is _ _ _),
    fun _ => givesEr_of_count rfl (addN_is _ _ _), fun _ => givesEr_of_count rfl (subN_is _ _ _),
    fun _ => givesEr_of_count rfl (addN_is _ _ _), fun _ => givesEr_of_count rfl (subN_is _ _ _)⟩

/-- Settles O14: each form writes the register changed by its constant. -/
theorem addsSubsKeepFlags : Obligations.AddsSubsKeepFlags := fun _ =>
  ⟨fun _ => givesEr_of_writeEr rfl (add_eq_ofInt _ 1), fun _ => givesEr_of_writeEr rfl (add_eq_ofInt _ 2),
    fun _ => givesEr_of_writeEr rfl (add_eq_ofInt _ 4), fun _ => givesEr_of_writeEr rfl (sub_eq_ofInt _ 1),
    fun _ => givesEr_of_writeEr rfl (sub_eq_ofInt _ 2), fun _ => givesEr_of_writeEr rfl (sub_eq_ofInt _ 4)⟩

end Sys2Proof.Machine
end

section
/-!
SUPPORT. ADD.B then ADDX.B, and SUB.B then SUBX.B, on the two halves of a word (spec/41_arithmetic.md R216, R217): the
second byte operation takes the carry or borrow of the first, and together they are the word operation.
-/

namespace Sys2Proof.Machine

/-! ### A word and its bytes -/

/-- A word as the number of its two bytes. -/
theorem toNat_append_byte {w : Nat} (x : BitVec w) (y : Byte) : (x ++ y).toNat = 256 * x.toNat + y.toNat := by
  rw [BitVec.toNat_append, ← Nat.shiftLeft_add_eq_or_of_lt y.isLt, Nat.shiftLeft_eq, Nat.mul_comm]

/-- The sign of a word is the sign of its high byte. -/
theorem msb_append_byte (x y : Byte) : (x ++ y : Word).msb = x.msb := by
  rw [BitVec.msb_append, if_neg (by decide)]

/-- A word is 0 when both its bytes are. -/
theorem append_beq_zero (x y : Byte) : (x ++ y == 0#16) = (y == 0#8 && x == 0#8) := by
  simp only [beq_zero_eq_toNat, toNat_append_byte, ← Bool.decide_and, decide_eq_decide]
  omega

/-- A condition as a carry. -/
theorem toNat_decide (p : Prop) [Decidable p] : (decide p).toNat = if p then 1 else 0 := by
  rw [Bool.toNat, Bool.cond_decide]

/-! ### The word operation from the byte operations -/

/-- N, Z and V as R15 and R16 derive them from the result: V where the operands' signs make an overflow possible
(`mayOverflow`) and the result's sign is not the first operand's. -/
structure Arith.SignsFrom {w : Nat} (r : Arith w) (mayOverflow sign : Bool) : Prop where
  n : r.n = r.result.msb
  z : r.z = (r.result == 0#w)
  v : r.v = (mayOverflow && (r.result.msb != sign))

theorem addN_signsFrom {w : Nat} (a b : BitVec w) (c : Bool) : (addN a b c).SignsFrom (a.msb == b.msb) a.msb :=
  ⟨rfl, rfl, rfl⟩

theorem subN_signsFrom {w : Nat} (a b : BitVec w) (c : Bool) : (subN a b c).SignsFrom (a.msb != b.msb) a.msb :=
  ⟨rfl, rfl, rfl⟩

/-- The operation on a word is made of one on the low bytes and one on the high bytes: Z tells that both results are
0, and the other flags are those of the high bytes. -/
structure Arith.JoinsBytes (r : Arith 16) (high low : Arith 8) : Prop where
  result : r.result = high.result ++ low.result
  n : r.n = high.n
  z : r.z = (low.z && high.z)
  v : r.v = high.v
  c : r.c = high.c

/-- The result and the carry settle the other flags. -/
theorem Arith.JoinsBytes.of_result {r : Arith 16} {high low : Arith 8} {mayOverflow mayOverflow' sign sign' : Bool}
    (hr : r.result = high.result ++ low.result) (hc : r.c = high.c) (hw : r.SignsFrom mayOverflow sign)
    (hh : high.SignsFrom mayOverflow sign) (hl : low.SignsFrom mayOverflow' sign') : r.JoinsBytes high low where
  result := hr
  n := by rw [hw.n, hh.n, hr, msb_append_byte]
  z := by rw [hw.z, hh.z, hl.z, hr, append_beq_zero]
  v := by rw [hw.v, hh.v, hr, msb_append_byte]
  c := hc

section
variable (x y x' y' : Byte)

theorem addN_joinsBytes :
    (addN (x ++ y) (x' ++ y') false).JoinsBytes (addN x x' (addN y y' false).c) (addN y y' false) := by
  have hr : (addN (x ++ y) (x' ++ y') false).result =
      (addN x x' (addN y y' false).c).result ++ (addN y y' false).result := by
    apply BitVec.eq_of_toNat_eq
    simp only [addN, toNat_append_byte, BitVec.toNat_ofNat, toNat_decide, Bool.toNat_false]
    split <;> omega
  have hc : (addN (x ++ y) (x' ++ y') false).c = (addN x x' (addN y y' false).c).c := by
    have := y.isLt
    have := y'.isLt
    simp only [addN, toNat_append_byte, toNat_decide, Bool.toNat_false, decide_eq_decide]
    split <;> omega
  have hw := addN_signsFrom (x ++ y) (x' ++ y') false
  rw [msb_append_byte, msb_append_byte] at hw
  exact .of_result hr hc hw (addN_signsFrom x x' _) (addN_signsFrom y y' _)

theorem subN_joinsBytes :
    (subN (x ++ y) (x' ++ y') false).JoinsBytes (subN x x' (subN y y' false).c) (subN y y' false) := by
  have hy := y.isLt
  have hy' := y'.isLt
  have hr : (subN (x ++ y) (x' ++ y') false).result =
      (subN x x' (subN y y' false).c).result ++ (subN y y' false).result := by
    apply BitVec.eq_of_toNat_eq
    simp only [subN, toNat_append_byte, BitVec.toNat_sub, BitVec.toNat_ofNat, toNat_decide, Bool.toNat_false]
    split <;> omega
  have hc : (subN (x ++ y) (x' ++ y') false).c = (subN x x' (subN y y' false).c).c := by
    simp only [subN, toNat_append_byte, toNat_decide, Bool.toNat_false, decide_eq_decide]
    split <;> omega
  have hw := subN_signsFrom (x ++ y) (x' ++ y') false
  rw [msb_append_byte, msb_append_byte] at hw
  exact .of_result hr hc hw (subN_signsFrom x x' _) (subN_signsFrom y y' _)

end

/-! ### Two bytes written -/

section
variable {s t u : State} {n : ErNum}

/-- A field without its top bit names Rn. -/
theorem eq_append_erOf {k : RegNum} (h : upperHalf k = false) : k = 0#1 ++ erOf k :=
  regNum_ext (by simp) (by simp [h])

/-- Two fields are equal when their two parts are. -/
theorem regNum_append_inj {x y : BitVec 1} {m n : ErNum} : (x ++ m : RegNum) = y ++ n ↔ x = y ∧ m = n := by
  revert x y m n; decide

/-- RnL written, then RnH: Rn alone differs. -/
theorem onlyR16_of_bytes {high low : Byte} (hl : OnlyR8 s t (1#1 ++ n) low) (hh : OnlyR8 t u (0#1 ++ n) high) :
    OnlyR16 s u (0#1 ++ n) (high ++ low) := by
  obtain ⟨hlow, hlkept, hlupper⟩ := hl
  obtain ⟨hhigh, hhkept, hhupper⟩ := hh
  refine ⟨?_, fun j hj => ?_⟩
  · rw [readR16_eq_bytes, hhigh, hhkept _ (by simp [regNum_append_inj]), hlow]
  · cases hu : upperHalf j with
    | true => simp only [readR16, hu, if_true, hhupper, hlupper]
    | false =>
      have hn : erOf j ≠ n := by
        rintro rfl
        exact hj (eq_append_erOf hu)
      have hne (x y : BitVec 1) : (x ++ erOf j : RegNum) ≠ y ++ n := by simp [regNum_append_inj, hn]
      rw [eq_append_erOf hu, readR16_eq_bytes, readR16_eq_bytes, hhkept _ (hne _ _), hhkept _ (hne _ _),
        hlkept _ (hne _ _), hlkept _ (hne _ _)]

/-- The byte operations one after the other: Rn holds the result of the word operation, and N, Z, V, C are its flags. -/
theorem wordOperation_of_bytes {r : Arith 16} {high low : Arith 8} {v : Word} {flags : List (CcrBit × Bool)}
    (ht : t = arithR8 s (1#1 ++ n) low) (hu : u = arithXR8 t (0#1 ++ n) high) (hj : r.JoinsBytes high low)
    (hr : r.Is v flags) :
    OnlyR16 s u (0#1 ++ n) v ∧ ∀ f ∈ [CcrBit.n, .z, .v, .c], some (ccrGet u.ccr f) = flags.lookup f := by
  obtain ⟨rfl, rfl⟩ := hr
  subst hu ht
  have hz : ccrGet (arithR8 s (1#1 ++ n) low).ccr .z = low.z := by rw [arithR8_ccr, ccrGet_ccrPutArith]
  refine ⟨?_, fun f hf => ?_⟩
  · rw [hj.result]
    exact onlyR16_of_bytes (onlyR8_writeR8 s _ _) (onlyR8_writeR8 _ _ _)
  · rw [arithXR8_ccr, ccrPutArithX, ccrGet_ccrPutArith, hz]
    simp only [List.mem_cons, List.not_mem_nil, or_false] at hf
    obtain rfl | rfl | rfl | rfl := hf
    · exact congrArg some hj.n.symm
    · exact congrArg some hj.z.symm
    · exact congrArg some hj.v.symm
    · exact congrArg some hj.c.symm

end

/-- An operation on a low byte leaves the high bytes alone. -/
theorem readR8_high_arithR8 (s : State) (m n : ErNum) (r : Arith 8) :
    readR8 (arithR8 s (1#1 ++ n) r) (0#1 ++ m) = readR8 s (0#1 ++ m) := by
  rw [arithR8, readR8_setCcr, readR8_writeR8, if_neg (by simp [regNum_append_inj])]

/-- Settles O12: each byte operation starts from the bytes of `s`, the second with the carry or borrow of the first. -/
theorem wordFromBytePairs : Obligations.WordFromBytePairs := by
  intro s m n
  simp only [readR16_eq_bytes]
  refine ⟨⟨_, _, rfl, rfl, ?_⟩, ⟨_, _, rfl, rfl, ?_⟩⟩
  · refine wordOperation_of_bytes rfl ?_ (addN_joinsBytes _ _ _ _) (addN_is _ _ _)
    rw [readR8_high_arithR8, readR8_high_arithR8, arithR8_ccr, ccrGet_ccrPutArith]
  · refine wordOperation_of_bytes rfl ?_ (subN_joinsBytes _ _ _ _) (subN_is _ _ _)
    rw [readR8_high_arithR8, readR8_high_arithR8, arithR8_ccr, ccrGet_ccrPutArith]

end Sys2Proof.Machine
end

section
/-!
SUPPORT. DAA and DAS (spec/41_arithmetic.md R226, R227): what the adjustment writes, and that after an addition or a
subtraction of packed decimal bytes it gives the decimal sum or difference, with the obligations about them.
-/

namespace Sys2Proof.Machine

/-! ### What the adjustment writes -/

/-- With a row of the table, these are the byte `old` adjusted, its N and Z, and the row's C. -/
def AdjustedBy (row : Option BcdRow) (old v : Byte) (n z c : Bool) : Prop :=
  ∀ r, row = some r → v = old + r.added ∧ n = v.msb ∧ z = (v == 0#8) ∧ c = r.cAfter

theorem adjustedBy_none (old v : Byte) (n z c : Bool) : AdjustedBy none old v n z c := nofun

theorem adjustedBy_some (r : BcdRow) (old : Byte) :
    AdjustedBy (some r) old (old + r.added) (old + r.added).msb (old + r.added == 0#8) r.cAfter := by
  rintro _ ⟨⟩
  exact ⟨rfl, rfl, rfl, rfl⟩

section
variable {i : Instr} {s : State} {k : RegNum} {row : Option BcdRow}

/-- What DAA writes. -/
theorem givesR8_of_adjust_true (h : exec i s = .next (adjustR8 s k row true)) :
    ∃ v h n z o c, GivesR8 i s k v [(.h, h), (.n, n), (.z, z), (.v, o), (.c, c)] ∧
      AdjustedBy row (readR8 s k) v n z c := by
  have flags (h n z o c : Bool) : FlagsAfter s
      (s.setCcr (ccrPut (ccrPut (ccrPut (ccrPut (ccrPut s.ccr .n n) .z z) .c c) .h h) .v o))
      [(.h, h), (.n, n), (.z, z), (.v, o), (.c, c)] := by
    intro f
    simp only [setCcr_ccr, ccrGet_ccrPut]
    cases f <;> rfl
  cases row with
  | none => exact ⟨_, _, _, _, _, _, givesR8_of_write (d := 1) (flags _ _ _ _ _) h, adjustedBy_none _ _ _ _ _⟩
  | some r => exact ⟨_, _, _, _, _, _, givesR8_of_write (d := 1) (flags _ _ _ _ _) h, adjustedBy_some r _⟩

/-- What DAS writes; C is kept. -/
theorem givesR8_of_adjust_false (h : exec i s = .next (adjustR8 s k row false)) :
    ∃ v h n z o c, GivesR8 i s k v [(.h, h), (.n, n), (.z, z), (.v, o)] ∧ AdjustedBy row (readR8 s k) v n z c := by
  have flags (h n z o : Bool) : FlagsAfter s
      (s.setCcr (ccrPut (ccrPut (ccrPut (ccrPut s.ccr .n n) .z z) .h h) .v o))
      [(.h, h), (.n, n), (.z, z), (.v, o)] := by
    intro f
    simp only [setCcr_ccr, ccrGet_ccrPut]
    cases f <;> rfl
  cases row with
  | none =>
    exact ⟨_, _, _, _, _, false, givesR8_of_write (d := 1) (flags _ _ _ _) h, adjustedBy_none _ _ _ _ _⟩
  | some r => exact ⟨_, _, _, _, _, _, givesR8_of_write (d := 1) (flags _ _ _ _) h, adjustedBy_some r _⟩

end

/-- Settles O15: the byte and the flags that the adjustment writes, as numbers. -/
theorem decimalAdjustRows : Obligations.DecimalAdjustRows := by
  refine fun s rd => ⟨?_, ?_⟩
  · obtain ⟨v, h, n, z, o, c, hg, ha⟩ := givesR8_of_adjust_true (i := .daa rd) (s := s) rfl
    refine ⟨v, h, n, z, o, c, hg, fun r hr => ?_⟩
    obtain ⟨hv, hn, hz, hc⟩ := ha r hr
    exact ⟨hv ▸ BitVec.toNat_add _ _, hn.trans (msb_eq_neg v), hz.trans (beq_zero_eq_toNat v), hc⟩
  · obtain ⟨v, h, n, z, o, c, hg, ha⟩ := givesR8_of_adjust_false (i := .das rd) (s := s) rfl
    refine ⟨v, h, n, z, o, hg, fun r hr => ?_⟩
    obtain ⟨hv, hn, hz, -⟩ := ha r hr
    exact ⟨hv ▸ BitVec.toNat_add _ _, hn.trans (msb_eq_neg v), hz.trans (beq_zero_eq_toNat v)⟩

/-! ### The tables

Two decimal digits and a carry sum to at most 19, and their difference with a borrow is at least -10. `i` and `j` stand
for the sums of the upper and of the lower digits, or for their differences, raised by 9 and 10 to be numbers from 0 on:
`16 * i + j` is then the binary sum, or the binary difference raised by 154 (a byte that wraps holds it raised by
256, which is 154 + 102), and `10 * i + j` the decimal sum, or the decimal difference raised by 100.
-/

/-- After any addition of decimal bytes, a row of the DAA table makes the binary sum the decimal sum. -/
theorem daaTable_corrects : ∀ i < 19, ∀ j < 20,
    (bcdLookup daaTable (decide (256 ≤ 16 * i + j)) (decide (16 ≤ j)) (BitVec.ofNat 8 (16 * i + j))).map
      (fun r => (BitVec.ofNat 8 (16 * i + j) + r.added, r.cAfter)) =
    some (toBcd ((10 * i + j) % 100), decide (100 ≤ 10 * i + j)) := by
  decide

/-- After any subtraction of decimal bytes, a row of the DAS table makes the binary difference the decimal one. -/
theorem dasTable_corrects : ∀ i < 19, ∀ j < 20,
    (bcdLookup dasTable (decide (16 * i + j < 154)) (decide (j < 10)) (BitVec.ofNat 8 (16 * i + j + 102))).map
      (fun r => BitVec.ofNat 8 (16 * i + j + 102) + r.added) = some (toBcd ((10 * i + j) % 100)) := by
  decide

/-! ### Decimal addition and subtraction -/

/-- The byte in the register, H and C are those of `r`. -/
structure HoldsArith (t : State) (k : RegNum) (r : Arith 8) : Prop where
  value : readR8 t k = r.result
  h : ccrGet t.ccr .h = r.h
  c : ccrGet t.ccr .c = r.c

theorem arithR8_holdsArith (s : State) (k : RegNum) (r : Arith 8) : HoldsArith (arithR8 s k r) k r where
  value := by rw [arithR8, readR8_setCcr, readR8_writeR8, if_pos rfl]
  h := ccrGet_ccrPutArith ..
  c := ccrGet_ccrPutArith ..

theorem arithXR8_holdsArith (s : State) (k : RegNum) (r : Arith 8) : HoldsArith (arithXR8 s k r) k r where
  value := by rw [arithXR8, readR8_setCcr, readR8_writeR8, if_pos rfl]
  h := ccrGet_ccrPutArith ..
  c := ccrGet_ccrPutArith ..

section
variable {t : State} {k : RegNum} {a b : Byte} {c : Bool}

theorem bcdLookup_daaTable_addN (ha : IsBcd a) (hb : IsBcd b) :
    (bcdLookup daaTable (addN a b c).c (addN a b c).h (addN a b c).result).map
      (fun r => ((addN a b c).result + r.added, r.cAfter)) =
    some (toBcd ((bcdValue a + bcdValue b + c.toNat) % 100), decide (100 ≤ bcdValue a + bcdValue b + c.toNat)) := by
  obtain ⟨ha, ha'⟩ := ha
  obtain ⟨hb, hb'⟩ := hb
  have hc := c.toNat_le
  have digits := daaTable_corrects (a.toNat / 16 + b.toNat / 16) (by omega) (a.toNat % 16 + b.toNat % 16 + c.toNat)
    (by omega)
  have binary : 16 * (a.toNat / 16 + b.toNat / 16) + (a.toNat % 16 + b.toNat % 16 + c.toNat) =
      a.toNat + b.toNat + c.toNat := by omega
  have decimal : 10 * (a.toNat / 16 + b.toNat / 16) + (a.toNat % 16 + b.toNat % 16 + c.toNat) =
      bcdValue a + bcdValue b + c.toNat := by simp only [bcdValue]; omega
  rwa [binary, decimal] at digits

/-- DAA after a decimal addition. -/
theorem daa_of_addN (ht : HoldsArith t k (addN a b c)) (ha : IsBcd a) (hb : IsBcd b) :
    ∃ u, exec (.daa k) t = .next u ∧ readR8 u k = toBcd ((bcdValue a + bcdValue b + c.toNat) % 100) ∧
      ccrGet u.ccr .c = decide (100 ≤ bcdValue a + bcdValue b + c.toNat) := by
  obtain ⟨r, hr, hsum⟩ := Option.map_eq_some_iff.1 (bcdLookup_daaTable_addN (c := c) ha hb)
  obtain ⟨hv, hcarry⟩ := Prod.ext_iff.1 hsum
  rw [← ht.value, ← ht.h, ← ht.c] at hr
  obtain ⟨v, h, n, z, o, c', ⟨u, hu, hf, -, -, ⟨hread, -⟩, -⟩, hadj⟩ :=
    givesR8_of_adjust_true (i := .daa k) (s := t) rfl
  obtain ⟨rfl, -, -, rfl⟩ := hadj r hr
  exact ⟨u, hu, by rw [hread, ht.value]; exact hv, (hf .c).trans hcarry⟩

theorem bcdLookup_dasTable_subN (ha : IsBcd a) (hb : IsBcd b) :
    (bcdLookup dasTable (subN a b c).c (subN a b c).h (subN a b c).result).map
      (fun r => (subN a b c).result + r.added) =
    some (toBcd ((bcdValue a + 100 - bcdValue b - c.toNat) % 100)) := by
  obtain ⟨ha, ha'⟩ := ha
  obtain ⟨hb, hb'⟩ := hb
  have hc := c.toNat_le
  have digits := dasTable_corrects (a.toNat / 16 + 9 - b.toNat / 16) (by omega)
    (a.toNat % 16 + 10 - b.toNat % 16 - c.toNat) (by omega)
  have borrow : (subN a b c).c = decide (16 * (a.toNat / 16 + 9 - b.toNat / 16) +
      (a.toNat % 16 + 10 - b.toNat % 16 - c.toNat) < 154) := decide_eq_decide.2 (by omega)
  have half : (subN a b c).h = decide (a.toNat % 16 + 10 - b.toNat % 16 - c.toNat < 10) :=
    decide_eq_decide.2 (by simp only [halfWidth]; omega)
  have binary : (subN a b c).result = BitVec.ofNat 8 (16 * (a.toNat / 16 + 9 - b.toNat / 16) +
      (a.toNat % 16 + 10 - b.toNat % 16 - c.toNat) + 102) := by
    apply BitVec.eq_of_toNat_eq
    simp only [subN, BitVec.toNat_sub, BitVec.toNat_ofNat]
    omega
  have decimal : 10 * (a.toNat / 16 + 9 - b.toNat / 16) + (a.toNat % 16 + 10 - b.toNat % 16 - c.toNat) =
      bcdValue a + 100 - bcdValue b - c.toNat := by simp only [bcdValue]; omega
  rwa [← borrow, ← half, ← binary, decimal] at digits

/-- The borrow of decimal bytes is the decimal borrow. -/
theorem subN_c_of_isBcd (ha : IsBcd a) (hb : IsBcd b) :
    (subN a b c).c = decide (bcdValue a < bcdValue b + c.toNat) := by
  obtain ⟨ha, ha'⟩ := ha
  obtain ⟨hb, hb'⟩ := hb
  have hc := c.toNat_le
  exact decide_eq_decide.2 (by simp only [bcdValue]; omega)

/-- DAS after a decimal subtraction, whose C it keeps. -/
theorem das_of_subN (ht : HoldsArith t k (subN a b c)) (ha : IsBcd a) (hb : IsBcd b) :
    ∃ u, exec (.das k) t = .next u ∧ readR8 u k = toBcd ((bcdValue a + 100 - bcdValue b - c.toNat) % 100) ∧
      ccrGet u.ccr .c = decide (bcdValue a < bcdValue b + c.toNat) := by
  obtain ⟨r, hr, hv⟩ := Option.map_eq_some_iff.1 (bcdLookup_dasTable_subN (c := c) ha hb)
  rw [← ht.value, ← ht.h, ← ht.c] at hr
  obtain ⟨v, h, n, z, o, c', ⟨u, hu, hf, -, -, ⟨hread, -⟩, -⟩, hadj⟩ :=
    givesR8_of_adjust_false (i := .das k) (s := t) rfl
  obtain ⟨rfl, -, -, -⟩ := hadj r hr
  exact ⟨u, hu, by rw [hread, ht.value]; exact hv, (hf .c).trans (ht.c.trans (subN_c_of_isBcd ha hb))⟩

end

/-- Settles O16: the adjustment of what the addition or subtraction holds in the register. -/
theorem decimalArithmetic : Obligations.DecimalArithmetic := by
  intro s rs rd hs hd
  exact ⟨⟨_, (daa_of_addN (arithR8_holdsArith s rd _) hd hs).imp fun _ h => ⟨rfl, h⟩⟩,
    ⟨_, (daa_of_addN (arithXR8_holdsArith s rd _) hd hs).imp fun _ h => ⟨rfl, h⟩⟩,
    ⟨_, (das_of_subN (arithR8_holdsArith s rd _) hd hs).imp fun _ h => ⟨rfl, h⟩⟩,
    ⟨_, (das_of_subN (arithXR8_holdsArith s rd _) hd hs).imp fun _ h => ⟨rfl, h⟩⟩⟩

end Sys2Proof.Machine
end

section
/-!
SUPPORT. Multiplication, division and extension (spec/41_arithmetic.md R228 to R235, R242 to R252): products, quotients
and extended values as numbers, and the obligations about them.
-/

namespace Sys2Proof.Machine

variable {i : Instr} {s : State} {q : Nat}

/-! ### Numbers -/

/-- The low part of a value, as a number. -/
theorem toNat_extractLsb'_zero {w : Nat} (v : BitVec w) (k : Nat) : (v.extractLsb' 0 k).toNat = v.toNat % 2 ^ k := by
  rw [BitVec.extractLsb'_toNat, Nat.shiftRight_zero]

/-- Zero as a signed and as an unsigned number. -/
theorem toInt_eq_zero_iff {w : Nat} (v : BitVec w) : v.toInt = 0 ↔ v.toNat = 0 := by
  rw [← BitVec.toInt_zero (w := w), BitVec.toInt_inj, ← BitVec.toNat_inj, BitVec.toNat_zero]

/-- A value that is not 0 has a bit. -/
theorem width_pos_of_toInt_ne_zero {w : Nat} {v : BitVec w} (h : v.toInt ≠ 0) : 0 < w :=
  Nat.pos_of_ne_zero fun hw => h (BitVec.toInt_of_zero_length hw v)

/-! ### Products -/

/-- An unsigned product fits twice the width. -/
theorem mulUnsigned_toNat (a b : BitVec q) : (mulUnsigned a b).toNat = a.toNat * b.toNat := by
  rw [mulUnsigned, BitVec.toNat_ofNat, Nat.pow_add, Nat.mod_eq_of_lt (Nat.mul_lt_mul'' a.isLt b.isLt)]

/-- A signed product fits twice the width. -/
theorem ofInt_mulSigned_toInt (hq : 0 < q) (a b : BitVec q) :
    (BitVec.ofInt (q + q) (mulSigned a b)).toInt = mulSigned a b := by
  have upper := BitVec.toInt_mul_toInt_le (x := a) (y := b)
  have lower := BitVec.le_toInt_mul_toInt (x := a) (y := b)
  have half : (2 : Int) ^ (q + q - 1) = 2 * 2 ^ (q * 2 - 2) := by
    rw [← pow_succ', show q * 2 - 2 + 1 = q + q - 1 by omega]
  have positive : (0 : Int) < 2 ^ (q * 2 - 2) := by positivity
  exact BitVec.toInt_ofInt_eq_self (by omega) (by rw [half, mulSigned]; omega) (by rw [half, mulSigned]; omega)

/-- N and Z of a product. -/
theorem flagsAfter_ccrPutSign {w : Nat} {v : BitVec w} {p : Int} (h : v.toInt = p) :
    FlagsAfter s (s.setCcr (ccrPutSign s.ccr p)) [(.n, decide (v.toInt < 0)), (.z, decide (v.toNat = 0))] := by
  have hz : decide (v.toNat = 0) = decide (p = 0) := by
    rw [← h, decide_eq_decide, toInt_eq_zero_iff]
  intro f
  simp only [setCcr_ccr, ccrPutSign, ccrGet_ccrPut, hz, h]
  cases f <;> rfl

theorem givesR16_of_product {k : RegNum} {a b : Byte} (h : exec i s = .next (productR16 s k a b)) :
    ∃ v, GivesR16 i s k v [(.n, decide (v.toInt < 0)), (.z, decide (v.toNat = 0))] ∧ v.toInt = a.toInt * b.toInt := by
  have hv := ofInt_mulSigned_toInt (by decide) a b
  exact ⟨_, givesR16_of_write (d := 0) (flagsAfter_ccrPutSign hv) h, hv⟩

theorem givesEr_of_product {n : ErNum} {a b : Word} (h : exec i s = .next (productEr s n a b)) :
    ∃ v, GivesEr i s n v [(.n, decide (v.toInt < 0)), (.z, decide (v.toNat = 0))] ∧ v.toInt = a.toInt * b.toInt := by
  have hv := ofInt_mulSigned_toInt (by decide) a b
  exact ⟨_, givesEr_of_write (d := 0) (flagsAfter_ccrPutSign hv) h, hv⟩

/-- Settles O17: each form writes the product of the low half and the source. -/
theorem multiplication : Obligations.Multiplication := by
  refine fun s => ⟨fun rs rd => ⟨_, givesR16_of_write (c := s.ccr) (d := 0) (flagsAfter_nil rfl) rfl, ?_⟩,
    fun rs erd => ⟨_, givesEr_of_write (c := s.ccr) (d := 0) (flagsAfter_nil rfl) rfl, ?_⟩,
    fun rs rd => ?_, fun rs erd => ?_⟩
  · exact (mulUnsigned_toNat _ _).trans (congrArg (· * _) (toNat_extractLsb'_zero (readR16 s rd) 8))
  · exact (mulUnsigned_toNat _ _).trans (congrArg (· * _) (toNat_extractLsb'_zero (readEr s erd) 16))
  · rw [BitVec.setWidth_eq_extractLsb' (by decide)]
    exact givesR16_of_product rfl
  · rw [BitVec.setWidth_eq_extractLsb' (by decide)]
    exact givesEr_of_product rfl

/-! ### Free values -/

/-- Only the counter of free values can differ. -/
theorem afterFree_drawn {α : Type} (s : State) (d : Nat) (o : Option α) : ∃ e, afterFree (s.drawn d) o = s.drawn e := by
  cases o with
  | some _ => exact ⟨d, rfl⟩
  | none => exact ⟨d + 1, rfl⟩

section
variable (s) (c : Byte)

theorem quotientR16_eq (k : RegNum) (o : Option Word) :
    ∃ e, quotientR16 s k o c = ((writeR16 s k (orFree s o)).setCcr c).drawn e :=
  afterFree_drawn ((writeR16 s k (orFree s o)).setCcr c) 0 o

theorem quotientEr_eq (n : ErNum) (o : Option Long) :
    ∃ e, quotientEr s n o c = ((writeEr s n (orFree s o)).setCcr c).drawn e :=
  afterFree_drawn ((writeEr s n (orFree s o)).setCcr c) 0 o

end

/-! ### Unsigned division -/

/-- Where there is a quotient, the low half holds it and the high half the remainder. -/
theorem divUnsigned_eq_some {n : BitVec (q + q)} {d : BitVec q} (hd : d.toNat ≠ 0) (hq : n.toNat / d.toNat < 2 ^ q) :
    ∃ v, divUnsigned q n d = some v ∧ v.toNat % 2 ^ q = n.toNat / d.toNat ∧ v.toNat / 2 ^ q = n.toNat % d.toNat := by
  have hr : n.toNat % d.toNat < 2 ^ q := (Nat.mod_lt _ (by omega)).trans d.isLt
  refine ⟨_, if_neg (by omega), ?_⟩
  rw [BitVec.toNat_append, BitVec.toNat_ofNat, BitVec.toNat_ofNat, Nat.mod_eq_of_lt hr, Nat.mod_eq_of_lt hq,
    ← Nat.shiftLeft_add_eq_or_of_lt hq, Nat.shiftLeft_eq, Nat.mul_comm]
  exact ⟨by rw [Nat.mul_add_mod, Nat.mod_eq_of_lt hq],
    by rw [Nat.mul_add_div (by positivity), Nat.div_eq_of_lt hq, Nat.add_zero]⟩

/-- They meet the defining equation of a division with remainder. -/
theorem divUnsigned_spec {n : BitVec (q + q)} {d : BitVec q} (hd : d.toNat ≠ 0)
    (hq : n.toNat / d.toNat ≤ 2 ^ q - 1) :
    n.toNat = (orFree s (divUnsigned q n d)).toNat % 2 ^ q * d.toNat + (orFree s (divUnsigned q n d)).toNat / 2 ^ q ∧
      (orFree s (divUnsigned q n d)).toNat / 2 ^ q < d.toNat := by
  obtain ⟨v, hv, hquot, hrem⟩ := divUnsigned_eq_some hd (Nat.lt_of_le_sub_one (by positivity) hq)
  rw [hv, orFree, hquot, hrem]
  exact ⟨(Nat.div_add_mod' _ _).symm, Nat.mod_lt _ (by omega)⟩

/-- N and Z of a divisor. -/
theorem flagsAfter_ccrPutNZ {w : Nat} (d : BitVec w) :
    FlagsAfter s (s.setCcr (ccrPutNZ s.ccr d)) [(.n, decide (d.toInt < 0)), (.z, decide (d.toNat = 0))] := by
  intro f
  rw [setCcr_ccr, ccrGet_ccrPutNZ, msb_eq_neg, beq_zero_eq_toNat]
  cases f <;> rfl

section
variable {k : RegNum} {n : ErNum} {c : Byte} {flags : List (CcrBit × Bool)}

theorem givesR16_of_quotient {o : Option Word} (hf : FlagsAfter s (s.setCcr c) flags)
    (h : exec i s = .next (quotientR16 s k o c)) : GivesR16 i s k (orFree s o) flags := by
  obtain ⟨e, he⟩ := quotientR16_eq s c k o
  exact givesR16_of_write hf (he ▸ h)

theorem givesEr_of_quotient {o : Option Long} (hf : FlagsAfter s (s.setCcr c) flags)
    (h : exec i s = .next (quotientEr s n o c)) : GivesEr i s n (orFree s o) flags := by
  obtain ⟨e, he⟩ := quotientEr_eq s c n o
  exact givesEr_of_write hf (he ▸ h)

/-- As before, one more value being free or not. -/
theorem givesR16_of_quotient_afterFree {α : Type} {o : Option Word} {p : Option α}
    (hf : FlagsAfter s (s.setCcr c) flags) (h : exec i s = .next (afterFree (quotientR16 s k o c) p)) :
    GivesR16 i s k (orFree s o) flags := by
  obtain ⟨e, he⟩ := quotientR16_eq s c k o
  obtain ⟨e', he'⟩ := afterFree_drawn ((writeR16 s k (orFree s o)).setCcr c) e p
  exact givesR16_of_write hf (he' ▸ he ▸ h)

theorem givesEr_of_quotient_afterFree {α : Type} {o : Option Long} {p : Option α}
    (hf : FlagsAfter s (s.setCcr c) flags) (h : exec i s = .next (afterFree (quotientEr s n o c) p)) :
    GivesEr i s n (orFree s o) flags := by
  obtain ⟨e, he⟩ := quotientEr_eq s c n o
  obtain ⟨e', he'⟩ := afterFree_drawn ((writeEr s n (orFree s o)).setCcr c) e p
  exact givesEr_of_write hf (he' ▸ he ▸ h)

end

/-- Settles O18: each form writes remainder and quotient or a free value. -/
theorem unsignedDivision : Obligations.UnsignedDivision := fun _ =>
  ⟨fun _ _ => ⟨_, givesR16_of_quotient (flagsAfter_ccrPutNZ _) rfl, divUnsigned_spec⟩,
    fun _ _ => ⟨_, givesEr_of_quotient (flagsAfter_ccrPutNZ _) rfl, divUnsigned_spec⟩⟩

/-! ### Signed division -/

/-- A remainder fits the width of the divisor. -/
theorem toInt_ofInt_tmod {d : BitVec q} (n : Int) (hd : d.toInt ≠ 0) :
    (BitVec.ofInt q (n.tmod d.toInt)).toInt = n.tmod d.toInt := by
  have := BitVec.toInt_lt (x := d)
  have := BitVec.le_toInt d
  have hr := Int.natAbs_tmod n d.toInt ▸ Nat.mod_lt n.natAbs (Int.natAbs_pos.2 hd)
  exact BitVec.toInt_ofInt_eq_self (width_pos_of_toInt_ne_zero hd) (by omega) (by omega)

/-- Where there is a quotient, the low half holds it and the high half the remainder; N is its sign, and free only for
a zero quotient of operands with opposite signs. -/
theorem divSigned_spec (u : State) {n : BitVec (q + q)} {d : BitVec q} (hd : d.toInt ≠ 0)
    (hlow : -(2 ^ (q - 1)) ≤ n.toInt.tdiv d.toInt) (hhigh : n.toInt.tdiv d.toInt < 2 ^ (q - 1)) :
    ((orFree s (divSigned q n d)).extractLsb' 0 q).toInt = n.toInt.tdiv d.toInt ∧
      ((orFree s (divSigned q n d)).extractLsb' q q).toInt = n.toInt.tmod d.toInt ∧
      (¬(n.toInt.tdiv d.toInt = 0 ∧ (n.toInt < 0 ∧ 0 < d.toInt ∨ 0 < n.toInt ∧ d.toInt < 0)) →
        orFreeBit u (divSignedN q n d) = decide (n.toInt.tdiv d.toInt < 0)) := by
  have hsome : divSigned q n d =
      some (BitVec.ofInt q (n.toInt.tmod d.toInt) ++ BitVec.ofInt q (n.toInt.tdiv d.toInt)) := if_neg (by omega)
  refine ⟨?_, ?_, fun hs => ?_⟩
  · rw [hsome, orFree, BitVec.extractLsb'_append_eq_right]
    exact BitVec.toInt_ofInt_eq_self (width_pos_of_toInt_ne_zero hd) hlow hhigh
  · rw [hsome, orFree, BitVec.extractLsb'_append_eq_left]
    exact toInt_ofInt_tmod _ hd
  · rw [divSignedN, hsome, if_neg (Option.some_ne_none _), if_neg hs, orFreeBit]

/-- N and Z of a signed division. -/
theorem flagsAfter_ccrPutDivSigned (u : State) (o : Option Bool) (d : BitVec q) :
    FlagsAfter s (s.setCcr (ccrPutDivSigned s.ccr u o d)) [(.n, orFreeBit u o), (.z, decide (d.toInt = 0))] := by
  have hz : (d == 0#q) = decide (d.toInt = 0) := by
    rw [beq_zero_eq_toNat, decide_eq_decide, toInt_eq_zero_iff]
  intro f
  simp only [setCcr_ccr, ccrPutDivSigned, ccrGet_ccrPut, hz]
  cases f <;> rfl

/-- Settles O19: each form writes remainder and quotient or a free value; N may take another. -/
theorem signedDivision : Obligations.SignedDivision := fun _ =>
  ⟨fun _ _ => ⟨_, _, givesR16_of_quotient_afterFree (flagsAfter_ccrPutDivSigned _ _ _) rfl, divSigned_spec _⟩,
    fun _ _ => ⟨_, _, givesEr_of_quotient_afterFree (flagsAfter_ccrPutDivSigned _ _ _) rfl, divSigned_spec _⟩⟩

/-! ### Extension -/

/-- Settles O20: the low half in the full width has its value. -/
theorem extendRegister : Obligations.ExtendRegister := by
  refine fun s => ⟨fun rd => ⟨_, givesR16_of_result rfl, ?_⟩, fun erd => ⟨_, givesEr_of_result rfl, ?_⟩,
    fun rd => ⟨_, givesR16_of_result rfl, ?_⟩, fun erd => ⟨_, givesEr_of_result rfl, ?_⟩⟩
  · exact (BitVec.toNat_setWidth_of_le (by decide)).trans (toNat_extractLsb'_zero (readR16 s rd) 8)
  · exact (BitVec.toNat_setWidth_of_le (by decide)).trans (toNat_extractLsb'_zero (readEr s erd) 16)
  · rw [BitVec.toInt_signExtend_of_le (by decide), BitVec.setWidth_eq_extractLsb' (by decide)]
  · rw [BitVec.toInt_signExtend_of_le (by decide), BitVec.setWidth_eq_extractLsb' (by decide)]

end Sys2Proof.Machine
end

section
/-!
SUPPORT. Logic operations (spec/42_logic.md R280 to R292): bitwise results in a register, and the obligation about them.
-/

namespace Sys2Proof.Machine

/-- Settles O21: each form gives the operation of the whole operands, whose bits (for NOT, whose number) the library
states; the forms stand in the order of the statement, AND, OR, XOR and NOT, each by its sizes. -/
theorem logicOperations : Obligations.LogicOperations := fun _ =>
  ⟨fun _ _ => ⟨_, givesR8_of_result rfl, fun _ => BitVec.getLsbD_and⟩,
    fun _ _ => ⟨_, givesR8_of_result rfl, fun _ => BitVec.getLsbD_and⟩,
    fun _ _ => ⟨_, givesR16_of_result rfl, fun _ => BitVec.getLsbD_and⟩,
    fun _ _ => ⟨_, givesR16_of_result rfl, fun _ => BitVec.getLsbD_and⟩,
    fun _ _ => ⟨_, givesEr_of_result rfl, fun _ => BitVec.getLsbD_and⟩,
    fun _ _ => ⟨_, givesEr_of_result rfl, fun _ => BitVec.getLsbD_and⟩,
    fun _ _ => ⟨_, givesR8_of_result rfl, fun _ => BitVec.getLsbD_or⟩,
    fun _ _ => ⟨_, givesR8_of_result rfl, fun _ => BitVec.getLsbD_or⟩,
    fun _ _ => ⟨_, givesR16_of_result rfl, fun _ => BitVec.getLsbD_or⟩,
    fun _ _ => ⟨_, givesR16_of_result rfl, fun _ => BitVec.getLsbD_or⟩,
    fun _ _ => ⟨_, givesEr_of_result rfl, fun _ => BitVec.getLsbD_or⟩,
    fun _ _ => ⟨_, givesEr_of_result rfl, fun _ => BitVec.getLsbD_or⟩,
    fun _ _ => ⟨_, givesR8_of_result rfl, fun _ => BitVec.getLsbD_xor⟩,
    fun _ _ => ⟨_, givesR8_of_result rfl, fun _ => BitVec.getLsbD_xor⟩,
    fun _ _ => ⟨_, givesR16_of_result rfl, fun _ => BitVec.getLsbD_xor⟩,
    fun _ _ => ⟨_, givesR16_of_result rfl, fun _ => BitVec.getLsbD_xor⟩,
    fun _ _ => ⟨_, givesEr_of_result rfl, fun _ => BitVec.getLsbD_xor⟩,
    fun _ _ => ⟨_, givesEr_of_result rfl, fun _ => BitVec.getLsbD_xor⟩,
    fun _ => ⟨_, givesR8_of_result rfl, BitVec.toNat_not⟩,
    fun _ => ⟨_, givesR16_of_result rfl, BitVec.toNat_not⟩,
    fun _ => ⟨_, givesEr_of_result rfl, BitVec.toNat_not⟩⟩

end Sys2Proof.Machine
end

section
/-!
SUPPORT. Shifts and rotates (spec/43_shift.md R300 to R310): every one of them is ROTXL or ROTXR with some bit entering
(SHAL with a V of its own); these two as arithmetic on integers, what undoes them, and the obligations about them.
-/

namespace Sys2Proof.Machine

variable {i j : Instr} {s t u : State} {w : Nat}

/-! ### A bit that enters -/

/-- Writing a bit that is clear adds it. -/
theorem putBit_eq_add {v : BitVec w} {k : Nat} (b : Bool) (h : v.getLsbD k = false) :
    putBit v k b = v + BitVec.ofNat w (b.toNat * 2 ^ k) := by
  cases b with
  | false =>
    refine BitVec.eq_of_getLsbD_eq fun i _ => ?_
    rw [getLsbD_putBit]
    split
    · next here => simp [here, h]
    · simp
  | true =>
    have apart : v &&& BitVec.twoPow w k = 0#w := by simp [BitVec.and_twoPow, h]
    have number : BitVec.twoPow w k = BitVec.ofNat w (2 ^ k) := BitVec.eq_of_toNat_eq (BitVec.toNat_twoPow w k)
    rw [Bool.toNat_true, Nat.one_mul, ← number, BitVec.add_eq_or_of_and_eq_zero _ _ apart, BitVec.twoPow_eq]
    rfl

/-- Nothing but the bit that enters is at the top of a value halved. -/
theorem getLsbD_top_half (d : BitVec w) : (d >>> 1).getLsbD (w - 1) = false := by
  rw [BitVec.getLsbD_ushiftRight]
  exact BitVec.getLsbD_of_ge _ _ (by omega)

/-- The top bit of a value doubled is the one below the top. -/
theorem msb_double (d : BitVec w) (hw : 1 < w) : (d <<< 1).msb = d.getLsbD (w - 2) := by
  rw [BitVec.msb_eq_getLsbD_last, BitVec.getLsbD_shiftLeft]
  simp [show w - 1 < w by omega, show ¬ w - 1 < 1 by omega, show w - 1 - 1 = w - 2 by omega]

/-! ### The machine's shifts as arithmetic on integers -/

/-- What a shift gives, as a claim states it. -/
def Shifted.asResult (r : Shifted w) : ShiftResult w := (r.result, r.c, r.v)

/-- The top bit is a number comparison. -/
theorem msb_eq_isTop (d : BitVec w) : d.msb = isTop d := by
  rw [Bool.eq_iff_iff, isTop, decide_eq_true_iff, BitVec.msb_eq_true_iff_two_mul_ge]

/-- Bit 0 is the remainder of halving. -/
theorem getLsbD_zero_eq_odd (d : BitVec w) : d.getLsbD 0 = decide (d.toNat % 2 = 1) := by
  rw [← BitVec.testBit_toNat, Nat.testBit_zero]

/-- A left move doubles. -/
theorem rotxl_asResult (d : BitVec w) (low : Bool) : (rotxl d low).asResult = doubled d low := by
  have result : putBit (d <<< 1) 0 low = BitVec.ofNat w (2 * d.toNat + low.toNat) := by
    rw [putBit_eq_add low (by simp)]
    apply BitVec.eq_of_toNat_eq
    simp [Nat.shiftLeft_eq, Nat.mul_comm]
  rw [rotxl, Shifted.asResult, result, msb_eq_isTop]
  rfl

/-- A right move halves. -/
theorem rotxr_asResult (d : BitVec w) (high : Bool) : (rotxr d high).asResult = halved d high := by
  have result : putBit (d >>> 1) (w - 1) high = BitVec.ofNat w (d.toNat / 2 + high.toNat * 2 ^ (w - 1)) := by
    rw [putBit_eq_add high (getLsbD_top_half d)]
    apply BitVec.eq_of_toNat_eq
    simp [Nat.shiftRight_eq_div_pow]
  rw [rotxr, Shifted.asResult, result, getLsbD_zero_eq_odd]
  rfl

theorem shll_eq_rotxl (d : BitVec w) : shll d = rotxl d false := by
  rw [shll, rotxl, putBit_eq_add _ (by simp)]
  simp

theorem shlr_eq_rotxr (d : BitVec w) : shlr d = rotxr d false := by
  rw [shlr, rotxr, putBit_eq_add _ (getLsbD_top_half d)]
  simp

theorem shll_asResult (d : BitVec w) : (shll d).asResult = doubled d false := by
  rw [shll_eq_rotxl, rotxl_asResult]

theorem shlr_asResult (d : BitVec w) : (shlr d).asResult = halved d false := by
  rw [shlr_eq_rotxr, rotxr_asResult]

/-- ROTL is ROTXL with the top bit entering. -/
theorem rotl_asResult (d : BitVec w) : (rotl d).asResult = doubled d (isTop d) := by
  rw [← msb_eq_isTop, ← rotxl_asResult]
  rfl

/-- ROTR is ROTXR with bit 0 entering. -/
theorem rotr_asResult (d : BitVec w) : (rotr d).asResult = halved d (decide (d.toNat % 2 = 1)) := by
  rw [← getLsbD_zero_eq_odd, ← rotxr_asResult]
  rfl

/-- SHAR is ROTXR with the sign entering, which is the arithmetic shift. -/
theorem shar_asResult (d : BitVec w) : (shar d).asResult = halvedSigned d := by
  have result : putBit (d >>> 1) (w - 1) d.msb = BitVec.ofInt w (d.toInt / 2) := by
    have shift : BitVec.ofInt w (d.toInt / 2) = d.sshiftRight 1 := by
      rw [BitVec.sshiftRight, Int.shiftRight_eq_div_pow]
      rfl
    rw [shift]
    refine BitVec.eq_of_getLsbD_eq fun i hi => ?_
    rw [getLsbD_putBit, BitVec.getLsbD_sshiftRight, BitVec.getLsbD_ushiftRight]
    by_cases top : i = w - 1
    · simp [top, show w - 1 < w by omega, show ¬ 1 + (w - 1) < w by omega]
    · simp [top, hi, show 1 + i < w by omega]
  rw [shar, Shifted.asResult, result, getLsbD_zero_eq_odd]
  rfl

/-- SHAL adds the operand to itself: V is the V of that sum. -/
theorem shal_asResult (d : BitVec w) (hw : w = 8 ∨ w = 16 ∨ w = 32 := by decide) :
    (shal d).asResult = doubledSigned d := by
  have sum : BitVec.ofInt w (2 * d.toInt) = sumOf d d false := by
    rw [sumOf, Bool.toNat_false, Int.two_mul, Nat.cast_zero, Int.add_zero]
  have result : (addN d d false).result = d <<< 1 := by
    apply BitVec.eq_of_toNat_eq
    simp [addN, Nat.shiftLeft_eq, Nat.mul_two]
  have overflow : (addN d d false).v = (d.getLsbD (w - 1) != d.getLsbD (w - 2)) := by
    change (d.msb == d.msb && (addN d d false).result.msb != d.msb) = _
    rw [result, msb_double d (by omega), BitVec.msb_eq_getLsbD_last, beq_self_eq_true, Bool.true_and, bne_comm]
  rw [shal, Shifted.asResult, doubledSigned, sum, ← overflow, addN_v hw, msb_eq_isTop, isTop, sumOf_eq, result,
    Bool.toNat_false, Nat.cast_zero, Int.add_zero, Int.two_mul]

/-! ### Instructions that write what a shift gives -/

/-- The flags of a shift. -/
theorem flagsAfter_ccrPutShift (r : Shifted w) :
    FlagsAfter s (s.setCcr (ccrPutShift s.ccr r)) (shiftFlags r.asResult) := by
  intro f
  rw [setCcr_ccr, ccrGet_ccrPutShift, msb_eq_neg, beq_zero_eq_toNat]
  cases f <;> rfl

section
variable {k : RegNum} {n : ErNum}

theorem givesR8_of_shift {r : Shifted 8} {x : ShiftResult 8} (h : exec i s = .next (shiftR8 s k r))
    (hr : r.asResult = x) : GivesR8 i s k x.1 (shiftFlags x) := by
  subst hr
  exact givesR8_of_write (d := 0) (flagsAfter_ccrPutShift r) h

theorem givesR16_of_shift {r : Shifted 16} {x : ShiftResult 16} (h : exec i s = .next (shiftR16 s k r))
    (hr : r.asResult = x) : GivesR16 i s k x.1 (shiftFlags x) := by
  subst hr
  exact givesR16_of_write (d := 0) (flagsAfter_ccrPutShift r) h

theorem givesEr_of_shift {r : Shifted 32} {x : ShiftResult 32} (h : exec i s = .next (shiftEr s n r))
    (hr : r.asResult = x) : GivesEr i s n x.1 (shiftFlags x) := by
  subst hr
  exact givesEr_of_write (d := 0) (flagsAfter_ccrPutShift r) h

end

/-- Settles O22: each form writes what its shift gives, which is the doubling or halving that the statement names; the
shifts stand in the order of the statement, each by its sizes. -/
theorem shiftsAndRotates : Obligations.ShiftsAndRotates := fun _ =>
  ⟨fun _ => givesR8_of_shift rfl (shal_asResult _), fun _ => givesR16_of_shift rfl (shal_asResult _),
    fun _ => givesEr_of_shift rfl (shal_asResult _),
    fun _ => givesR8_of_shift rfl (shar_asResult _), fun _ => givesR16_of_shift rfl (shar_asResult _),
    fun _ => givesEr_of_shift rfl (shar_asResult _),
    fun _ => givesR8_of_shift rfl (shll_asResult _), fun _ => givesR16_of_shift rfl (shll_asResult _),
    fun _ => givesEr_of_shift rfl (shll_asResult _),
    fun _ => givesR8_of_shift rfl (shlr_asResult _), fun _ => givesR16_of_shift rfl (shlr_asResult _),
    fun _ => givesEr_of_shift rfl (shlr_asResult _),
    fun _ => givesR8_of_shift rfl (rotl_asResult _), fun _ => givesR16_of_shift rfl (rotl_asResult _),
    fun _ => givesEr_of_shift rfl (rotl_asResult _),
    fun _ => givesR8_of_shift rfl (rotr_asResult _), fun _ => givesR16_of_shift rfl (rotr_asResult _),
    fun _ => givesEr_of_shift rfl (rotr_asResult _),
    fun _ => givesR8_of_shift rfl (rotxl_asResult _ _), fun _ => givesR16_of_shift rfl (rotxl_asResult _ _),
    fun _ => givesEr_of_shift rfl (rotxl_asResult _ _),
    fun _ => givesR8_of_shift rfl (rotxr_asResult _ _), fun _ => givesR16_of_shift rfl (rotxr_asResult _ _),
    fun _ => givesEr_of_shift rfl (rotxr_asResult _ _)⟩

/-! ### Rotating there and back -/

/-- The bit that entered on the left move leaves on a right move. -/
theorem getLsbD_zero_rotxl (d : BitVec w) (c : Bool) (hw : 0 < w := by decide) : (rotxl d c).result.getLsbD 0 = c := by
  rw [rotxl, getLsbD_putBit, if_pos rfl, decide_eq_true hw, Bool.and_true]

/-- The bit that entered on the right move leaves on a left move. -/
theorem msb_rotxr (d : BitVec w) (c : Bool) (hw : 0 < w := by decide) : (rotxr d c).result.msb = c := by
  rw [rotxr, BitVec.msb_eq_getLsbD_last, getLsbD_putBit, if_pos rfl, decide_eq_true (by omega), Bool.and_true]

/-- ROTXR takes back ROTXL, C included. -/
theorem rotxr_rotxl (d : BitVec w) (c : Bool) (hw : 0 < w := by decide) :
    rotxr (rotxl d c).result (rotxl d c).c = ⟨d, c, false⟩ := by
  have result : (rotxr (rotxl d c).result d.msb).result = d := by
    refine BitVec.eq_of_getLsbD_eq fun i hi => ?_
    simp only [rotxr, rotxl, getLsbD_putBit, BitVec.getLsbD_ushiftRight, BitVec.getLsbD_shiftLeft]
    by_cases top : i = w - 1
    · simp [top, BitVec.msb_eq_getLsbD_last, hw]
    · simp [top, show 1 + i < w by omega]
  exact congrArg₂ (Shifted.mk · · false) result (getLsbD_zero_rotxl d c hw)

/-- ROTXL takes back ROTXR, C included. -/
theorem rotxl_rotxr (d : BitVec w) (c : Bool) (hw : 0 < w := by decide) :
    rotxl (rotxr d c).result (rotxr d c).c = ⟨d, c, false⟩ := by
  have result : (rotxl (rotxr d c).result (d.getLsbD 0)).result = d := by
    refine BitVec.eq_of_getLsbD_eq fun i hi => ?_
    simp only [rotxr, rotxl, getLsbD_putBit, BitVec.getLsbD_ushiftRight, BitVec.getLsbD_shiftLeft]
    by_cases bottom : i = 0
    · simp [bottom, hw]
    · simp [bottom, hi, show ¬ i < 1 by omega, show i - 1 ≠ w - 1 by omega, show 1 + (i - 1) = i by omega]
  exact congrArg₂ (Shifted.mk · · false) result (msb_rotxr d c hw)

/-- The bit that ROTL brought to bit 0 is the one that ROTR brings back to the top. -/
theorem rotr_rotl (d : BitVec w) (hw : 0 < w := by decide) : rotr (rotl d).result = ⟨d, d.msb, false⟩ :=
  (congrArg (rotxr _) (getLsbD_zero_rotxl d d.msb hw)).trans (rotxr_rotxl d d.msb hw)

/-- The bit that ROTR brought to the top is the one that ROTL brings back to bit 0. -/
theorem rotl_rotr (d : BitVec w) (hw : 0 < w := by decide) : rotl (rotr d).result = ⟨d, d.getLsbD 0, false⟩ :=
  (congrArg (rotxl _) (msb_rotxr d (d.getLsbD 0) hw)).trans (rotxl_rotxr d (d.getLsbD 0) hw)

/-! ### A register written back -/

/-- The register file is what its registers read. -/
theorem er_of_readEr (h : ∀ n, readEr t n = readEr s n) : t.er = s.er :=
  Vector.ext fun m hm => by
    have hn : (BitVec.ofNat 3 m).toNat = m := Nat.mod_eq_of_lt hm
    simpa [readEr, hn] using h (BitVec.ofNat 3 m)

theorem er_of_readR16 (h : ∀ k, readR16 t k = readR16 s k) : t.er = s.er :=
  er_of_readEr fun n => by simp only [readEr_eq_words, h]

theorem er_of_readR8 (h : ∀ k, readR8 t k = readR8 s k)
    (upper : ∀ n, (readEr t n).extractLsb' 16 16 = (readEr s n).extractLsb' 16 16) : t.er = s.er :=
  er_of_readR16 fun k => by
    cases hu : upperHalf k with
    | true => simp only [readR16, hu, if_true, upper]
    | false => rw [eq_append_erOf hu, readR16_eq_bytes, readR16_eq_bytes, h, h]

section
variable {k : RegNum} {n : ErNum}

/-- A register written twice, the second time with what it held before: all registers are as before. -/
theorem OnlyR8.er_restored {v : Byte} (h : OnlyR8 s t k v) (h' : OnlyR8 t u k (readR8 s k)) : u.er = s.er := by
  obtain ⟨-, kept, upper⟩ := h
  obtain ⟨back, kept', upper'⟩ := h'
  refine er_of_readR8 (fun j => ?_) fun n => (upper' n).trans (upper n)
  by_cases hj : j = k
  · rw [hj, back]
  · rw [kept' j hj, kept j hj]

theorem OnlyR16.er_restored {v : Word} (h : OnlyR16 s t k v) (h' : OnlyR16 t u k (readR16 s k)) : u.er = s.er := by
  obtain ⟨-, kept⟩ := h
  obtain ⟨back, kept'⟩ := h'
  refine er_of_readR16 fun j => ?_
  by_cases hj : j = k
  · rw [hj, back]
  · rw [kept' j hj, kept j hj]

theorem OnlyEr.er_restored {v : Long} (h : OnlyEr s t n v) (h' : OnlyEr t u n (readEr s n)) : u.er = s.er := by
  obtain ⟨-, kept⟩ := h
  obtain ⟨back, kept'⟩ := h'
  refine er_of_readEr fun m => ?_
  by_cases hm : m = n
  · rw [hm, back]
  · rw [kept' m hm, kept m hm]

/-! ### The second instruction takes back the first -/

/-- `i` and then `j` complete at `s`, restore the general registers and leave C as `c`. -/
def UndoneBy (i j : Instr) (s : State) (c : Bool) : Prop :=
  ∃ t u, exec i s = .next t ∧ exec j t = .next u ∧ u.er = s.er ∧ ccrGet u.ccr .c = c

theorem UndoneBy.registers {c : Bool} (h : UndoneBy i j s c) :
    ∃ t u, exec i s = .next t ∧ exec j t = .next u ∧ u.er = s.er := by
  obtain ⟨t, u, ht, hu, her, -⟩ := h
  exact ⟨t, u, ht, hu, her⟩

/-- C after a shift is the bit that leaves. -/
theorem ccrGet_ccrPutShift_c (ccr : Byte) (r : Shifted w) : ccrGet (ccrPutShift ccr r) .c = r.c :=
  ccrGet_ccrPutShift ccr r .c

/-- Two shifts of the same register, the second of which (`g`, from the contents and C) takes back what the first
gave. -/
theorem undoneBy_of_shiftR8 {r : Shifted 8} {c v : Bool} (g : Byte → Bool → Shifted 8)
    (hi : exec i s = .next (shiftR8 s k r))
    (hj : ∀ t, exec j t = .next (shiftR8 t k (g (readR8 t k) (ccrGet t.ccr .c))))
    (back : g r.result r.c = ⟨readR8 s k, c, v⟩) : UndoneBy i j s c := by
  have first : OnlyR8 s (shiftR8 s k r) k r.result := onlyR8_writeR8 s k _
  have second := hj (shiftR8 s k r)
  rw [first.1, shiftR8_ccr, ccrGet_ccrPutShift_c, back] at second
  exact ⟨_, _, hi, second, first.er_restored (onlyR8_writeR8 _ k _), ccrGet_ccrPutShift_c _ _⟩

theorem undoneBy_of_shiftR16 {r : Shifted 16} {c v : Bool} (g : Word → Bool → Shifted 16)
    (hi : exec i s = .next (shiftR16 s k r))
    (hj : ∀ t, exec j t = .next (shiftR16 t k (g (readR16 t k) (ccrGet t.ccr .c))))
    (back : g r.result r.c = ⟨readR16 s k, c, v⟩) : UndoneBy i j s c := by
  have first : OnlyR16 s (shiftR16 s k r) k r.result := onlyR16_writeR16 s k _
  have second := hj (shiftR16 s k r)
  rw [first.1, shiftR16_ccr, ccrGet_ccrPutShift_c, back] at second
  exact ⟨_, _, hi, second, first.er_restored (onlyR16_writeR16 _ k _), ccrGet_ccrPutShift_c _ _⟩

theorem undoneBy_of_shiftEr {r : Shifted 32} {c v : Bool} (g : Long → Bool → Shifted 32)
    (hi : exec i s = .next (shiftEr s n r))
    (hj : ∀ t, exec j t = .next (shiftEr t n (g (readEr t n) (ccrGet t.ccr .c))))
    (back : g r.result r.c = ⟨readEr s n, c, v⟩) : UndoneBy i j s c := by
  have first : OnlyEr s (shiftEr s n r) n r.result := onlyEr_writeEr s n _
  have second := hj (shiftEr s n r)
  rw [first.1, shiftEr_ccr, ccrGet_ccrPutShift_c, back] at second
  exact ⟨_, _, hi, second, first.er_restored (onlyEr_writeEr _ n _), ccrGet_ccrPutShift_c _ _⟩

end

/-- Settles O23: in each pair the second rotate takes back what the first gave. -/
theorem rotatesInvert : Obligations.RotatesInvert := fun _ =>
  ⟨fun _ => (undoneBy_of_shiftR8 (fun d _ => rotr d) rfl (fun _ => rfl) (rotr_rotl _)).registers,
    fun _ => (undoneBy_of_shiftR16 (fun d _ => rotr d) rfl (fun _ => rfl) (rotr_rotl _)).registers,
    fun _ => (undoneBy_of_shiftEr (fun d _ => rotr d) rfl (fun _ => rfl) (rotr_rotl _)).registers,
    fun _ => (undoneBy_of_shiftR8 (fun d _ => rotl d) rfl (fun _ => rfl) (rotl_rotr _)).registers,
    fun _ => (undoneBy_of_shiftR16 (fun d _ => rotl d) rfl (fun _ => rfl) (rotl_rotr _)).registers,
    fun _ => (undoneBy_of_shiftEr (fun d _ => rotl d) rfl (fun _ => rfl) (rotl_rotr _)).registers,
    fun _ => undoneBy_of_shiftR8 rotxr rfl (fun _ => rfl) (rotxr_rotxl _ _),
    fun _ => undoneBy_of_shiftR16 rotxr rfl (fun _ => rfl) (rotxr_rotxl _ _),
    fun _ => undoneBy_of_shiftEr rotxr rfl (fun _ => rfl) (rotxr_rotxl _ _),
    fun _ => undoneBy_of_shiftR8 rotxl rfl (fun _ => rfl) (rotxl_rotxr _ _),
    fun _ => undoneBy_of_shiftR16 rotxl rfl (fun _ => rfl) (rotxl_rotxr _ _),
    fun _ => undoneBy_of_shiftEr rotxl rfl (fun _ => rfl) (rotxl_rotxr _ _)⟩

end Sys2Proof.Machine
end

section
/-!
SUPPORT. Bit manipulation (spec/44_bit_manipulation.md R320 to R334): the specified bit as a number, what an instruction
that changes or tests it completes with, and the obligations about them.
-/

namespace Sys2Proof.Machine

/-! ### The specified bit as a number -/

/-- The specified bit is the remainder of a halving. -/
theorem bitOf_eq_hasBit (b : Byte) (n : BitVec 3) : bitOf b n = hasBit b n := by
  rw [bitOf, ← BitVec.testBit_toNat, Nat.testBit_eq_decide_div_mod_eq, hasBit]

/-- The low 3 bits are the remainder modulo 8 (R320). -/
theorem bitNumberIn_eq_bitNumber (s : State) (rn : RegNum) : bitNumberIn s rn = bitNumber s rn := by
  apply BitVec.eq_of_toNat_eq
  simp [bitNumberIn, bitNumber]

/-- A bit written twice is as it was written last. -/
theorem putBit_putBit {w : Nat} (v : BitVec w) (k : Nat) (b c : Bool) : putBit (putBit v k b) k c = putBit v k c := by
  refine BitVec.eq_of_getLsbD_eq fun i _ => ?_
  simp only [getLsbD_putBit]
  split <;> rfl

/-- A bit written as it is changes nothing. -/
theorem putBit_getLsbD {w : Nat} (v : BitVec w) {k : Nat} (h : k < w) : putBit v k (v.getLsbD k) = v := by
  refine BitVec.eq_of_getLsbD_eq fun i _ => ?_
  rw [getLsbD_putBit]
  split
  · next here => simp [here, h]
  · rfl

/-- A bit written is the bit cleared and then added. -/
theorem putBit_eq_clear_add {w : Nat} (v : BitVec w) (k : Nat) (b : Bool) :
    putBit v k b = putBit v k false + BitVec.ofNat w (b.toNat * 2 ^ k) := by
  rw [← putBit_eq_add b (by simp [getLsbD_putBit]), putBit_putBit]

/-- Writing the specified bit replaces its value in the number: a bit that is set is worth no more than the byte. -/
theorem withBit_eq_setBitTo (b : Byte) (n : BitVec 3) (v : Bool) : withBit b n v = setBitTo b n v := by
  have le : (hasBit b n).toNat * 2 ^ n.toNat ≤ b.toNat := by
    cases h : hasBit b n with
    | false => simp
    | true =>
      rw [← bitOf_eq_hasBit, bitOf, ← BitVec.testBit_toNat] at h
      simpa using Nat.ge_two_pow_of_testBit h
  have whole : b = putBit b n.toNat false + BitVec.ofNat 8 ((hasBit b n).toNat * 2 ^ n.toNat) := by
    rw [← bitOf_eq_hasBit, ← putBit_eq_clear_add, bitOf, putBit_getLsbD b n.isLt]
  calc withBit b n v
      = putBit b n.toNat false + BitVec.ofNat 8 (v.toNat * 2 ^ n.toNat) := putBit_eq_clear_add b _ v
    _ = b - BitVec.ofNat 8 ((hasBit b n).toNat * 2 ^ n.toNat) + BitVec.ofNat 8 (v.toNat * 2 ^ n.toNat) := by
      nth_rw 2 [whole]
      rw [BitVec.add_sub_cancel]
    _ = setBitTo b n v := by
      rw [setBitTo, BitVec.ofNat_add, ← BitVec.ofNat_sub_ofNat_of_le _ _ (le.trans_lt b.isLt) le, BitVec.ofNat_toNat,
        BitVec.setWidth_eq]

/-! ### Instructions of one bit

`f` is what the instruction makes of the specified bit, and `n` the bit number as the machine computes it. -/

section
variable {i : Instr} {s : State} {a : Addr} {k : RegNum} {b : Byte} {m n : BitVec 3} (f : Bool → Bool)

/-- The machine's change of one bit of a register is the change of the number (R321 to R323, R333, R334). -/
theorem givesR8_of_withBit
    (h : exec i s = .next (writeR8 s k (withBit (readR8 s k) n (f (bitOf (readR8 s k) n)))))
    (hn : n = m := by rfl) : GivesR8 i s k (setBitTo (readR8 s k) m (f (hasBit (readR8 s k) m))) [] := by
  subst hn
  rw [← withBit_eq_setBitTo, ← bitOf_eq_hasBit]
  exact givesR8_of_write (c := s.ccr) (d := 0) (flagsAfter_nil rfl) h

/-- A write alone: the registers and the flags are as before. -/
theorem Writes.stores_keeping_flags {g : State → Res State} {cells : List (Addr × Byte)} (hg : Writes g cells)
    (h : exec i s = g s) (hw : Writable s cells) : Stores i s cells [] := by
  obtain ⟨t, ht⟩ := (hg.complete_iff s).2 hw
  have kept := hg.memoryOnly ht
  exact ⟨t, h.trans ht, flagsAfter_nil kept.ccr, hg.memoryAfter ht,
    ⟨kept.sleeping, kept.irq, kept.startPending, kept.platform⟩, kept.er, kept.pc⟩

/-- Which addresses are `ram` does not depend on the byte stored there. -/
theorem writable_singleton_congr {x y : Byte} (h : Writable s [(a, x)]) : Writable s [(a, y)] := by
  simpa [Writable] using h

/-- The same change of a byte of memory, which is read whole and written back whole (R320). -/
theorem stores_of_changeBit (h : exec i s = changeBit s a n f) (hn : n = m := by rfl)
    (hr : readByte s a = .next b) (hw : Writable s [(a, b)]) : Stores i s [(a, setBitTo b m (f (hasBit b m)))] [] := by
  subst hn
  rw [← withBit_eq_setBitTo, ← bitOf_eq_hasBit]
  exact (writeByte_writes a _).stores_keeping_flags (h.trans (andThen_of_next hr)) (writable_singleton_congr hw)

/-- One flag written, the others kept. -/
theorem flagsAfter_ccrPut (flag : CcrBit) (v : Bool) : FlagsAfter s (s.setCcr (ccrPut s.ccr flag v)) [(flag, v)] := by
  intro g
  rw [setCcr_ccr, ccrGet_ccrPut]
  by_cases hg : g = flag
  · simp [hg]
  · simp [hg, List.lookup, beq_false_of_ne hg]

/-- One flag from the specified bit of a byte (R324 to R332). -/
theorem givesFlags_of_bitOf (flag : CcrBit) (h : exec i s = .next (s.setCcr (ccrPut s.ccr flag (f (bitOf b n)))))
    (hn : n = m := by rfl) : GivesFlags i s [(flag, f (hasBit b m))] := by
  subst hn
  rw [← bitOf_eq_hasBit]
  exact completes_of_registers h (flagsAfter_ccrPut flag _) ⟨rfl, rfl⟩

/-- The same from a byte of memory. -/
theorem givesFlags_of_bitOf_load (flag : CcrBit)
    (h : exec i s = andThen (readByte s a) fun b => .next (s.setCcr (ccrPut s.ccr flag (f (bitOf b n)))))
    (hn : n = m := by rfl) (hr : readByte s a = .next b) : GivesFlags i s [(flag, f (hasBit b m))] :=
  givesFlags_of_bitOf f flag (h.trans (andThen_of_next hr)) hn

end

/-! ### The obligations -/

/-- Settles O24: each form writes the register with one bit changed; BSET, BCLR and BNOT take the bit number from the
instruction or from a register. -/
theorem bitChangeInRegister : Obligations.BitChangeInRegister := fun s =>
  have inRn := bitNumberIn_eq_bitNumber s
  ⟨fun _ _ => givesR8_of_withBit (fun _ => true) rfl, fun _ _ => givesR8_of_withBit (fun _ => true) rfl (inRn _),
    fun _ _ => givesR8_of_withBit (fun _ => false) rfl, fun _ _ => givesR8_of_withBit (fun _ => false) rfl (inRn _),
    fun _ _ => givesR8_of_withBit not rfl, fun _ _ => givesR8_of_withBit not rfl (inRn _),
    fun _ _ => givesR8_of_withBit (fun _ => ccrGet s.ccr .c) rfl,
    fun _ _ => givesR8_of_withBit (fun _ => !ccrGet s.ccr .c) rfl⟩

/-- Settles O25: each form is the change of one bit at its address; BSET, BCLR and BNOT stand in the order of the
statement with the bit number in the instruction, then in a register, and each is at `@ERd`, then at `@aa:8`. -/
theorem bitChangeInMemory : Obligations.BitChangeInMemory := fun s =>
  have inRn := bitNumberIn_eq_bitNumber s
  ⟨fun _ _ _ => stores_of_changeBit (fun _ => true) rfl, fun _ _ _ => stores_of_changeBit (fun _ => true) rfl,
    fun _ _ _ => stores_of_changeBit (fun _ => true) rfl (inRn _),
    fun _ _ _ => stores_of_changeBit (fun _ => true) rfl (inRn _),
    fun _ _ _ => stores_of_changeBit (fun _ => false) rfl, fun _ _ _ => stores_of_changeBit (fun _ => false) rfl,
    fun _ _ _ => stores_of_changeBit (fun _ => false) rfl (inRn _),
    fun _ _ _ => stores_of_changeBit (fun _ => false) rfl (inRn _),
    fun _ _ _ => stores_of_changeBit not rfl, fun _ _ _ => stores_of_changeBit not rfl,
    fun _ _ _ => stores_of_changeBit not rfl (inRn _), fun _ _ _ => stores_of_changeBit not rfl (inRn _),
    fun _ _ _ => stores_of_changeBit (fun _ => ccrGet s.ccr .c) rfl,
    fun _ _ _ => stores_of_changeBit (fun _ => ccrGet s.ccr .c) rfl,
    fun _ _ _ => stores_of_changeBit (fun _ => !ccrGet s.ccr .c) rfl,
    fun _ _ _ => stores_of_changeBit (fun _ => !ccrGet s.ccr .c) rfl⟩

/-- Settles O26: each form writes the inverse of the specified bit to Z. -/
theorem bitTest : Obligations.BitTest := fun s =>
  have inRn := bitNumberIn_eq_bitNumber s
  ⟨fun _ _ => givesFlags_of_bitOf not .z rfl, fun _ _ => givesFlags_of_bitOf not .z rfl (inRn _),
    fun _ _ _ => givesFlags_of_bitOf_load not .z rfl, fun _ _ _ => givesFlags_of_bitOf_load not .z rfl (inRn _),
    fun _ _ _ => givesFlags_of_bitOf_load not .z rfl, fun _ _ _ => givesFlags_of_bitOf_load not .z rfl (inRn _)⟩

/-- Settles O27: each form writes to C what it makes of C and the specified bit; the instructions stand in the order of
the statement, each on a register, at `@ERd` and at `@aa:8`. -/
theorem bitToCarry : Obligations.BitToCarry := fun s =>
  ⟨fun _ _ => givesFlags_of_bitOf (fun x => ccrGet s.ccr .c && x) .c rfl,
    fun _ _ _ => givesFlags_of_bitOf_load (fun x => ccrGet s.ccr .c && x) .c rfl,
    fun _ _ _ => givesFlags_of_bitOf_load (fun x => ccrGet s.ccr .c && x) .c rfl,
    fun _ _ => givesFlags_of_bitOf (fun x => ccrGet s.ccr .c && !x) .c rfl,
    fun _ _ _ => givesFlags_of_bitOf_load (fun x => ccrGet s.ccr .c && !x) .c rfl,
    fun _ _ _ => givesFlags_of_bitOf_load (fun x => ccrGet s.ccr .c && !x) .c rfl,
    fun _ _ => givesFlags_of_bitOf (fun x => ccrGet s.ccr .c || x) .c rfl,
    fun _ _ _ => givesFlags_of_bitOf_load (fun x => ccrGet s.ccr .c || x) .c rfl,
    fun _ _ _ => givesFlags_of_bitOf_load (fun x => ccrGet s.ccr .c || x) .c rfl,
    fun _ _ => givesFlags_of_bitOf (fun x => ccrGet s.ccr .c || !x) .c rfl,
    fun _ _ _ => givesFlags_of_bitOf_load (fun x => ccrGet s.ccr .c || !x) .c rfl,
    fun _ _ _ => givesFlags_of_bitOf_load (fun x => ccrGet s.ccr .c || !x) .c rfl,
    fun _ _ => givesFlags_of_bitOf (fun x => ccrGet s.ccr .c ^^ x) .c rfl,
    fun _ _ _ => givesFlags_of_bitOf_load (fun x => ccrGet s.ccr .c ^^ x) .c rfl,
    fun _ _ _ => givesFlags_of_bitOf_load (fun x => ccrGet s.ccr .c ^^ x) .c rfl,
    fun _ _ => givesFlags_of_bitOf (fun x => ccrGet s.ccr .c ^^ !x) .c rfl,
    fun _ _ _ => givesFlags_of_bitOf_load (fun x => ccrGet s.ccr .c ^^ !x) .c rfl,
    fun _ _ _ => givesFlags_of_bitOf_load (fun x => ccrGet s.ccr .c ^^ !x) .c rfl,
    fun _ _ => givesFlags_of_bitOf id .c rfl,
    fun _ _ _ => givesFlags_of_bitOf_load id .c rfl, fun _ _ _ => givesFlags_of_bitOf_load id .c rfl,
    fun _ _ => givesFlags_of_bitOf not .c rfl,
    fun _ _ _ => givesFlags_of_bitOf_load not .c rfl, fun _ _ _ => givesFlags_of_bitOf_load not .c rfl⟩

end Sys2Proof.Machine
end

section
/-!
SUPPORT. Control transfer (spec/45_branch.md R360 to R378): when it completes and when its target is refused, the
targets as numbers, and the obligations about branches and jumps.
-/

namespace Sys2Proof.Machine

variable {i : Instr} {s : State} {a : Addr}

/-! ### An even and an odd target -/

/-- An even target becomes PC (R360). -/
theorem jumpTo_even (h : a.toNat % 2 = 0) : jumpTo s a = .next (s.setPc a) :=
  jumpTo_eq_next.2 ⟨by rw [getLsbD_zero_eq_odd, h]; rfl, rfl⟩

/-- An odd target is refused (R360, D20; log 16). -/
theorem jumpTo_odd (h : a.toNat % 2 = 1) : jumpTo s a = .refused .oddTarget :=
  if_pos (by rw [getLsbD_zero_eq_odd, h]; rfl)

theorem completes_of_jumpTo (h : exec i s = jumpTo s a) (ha : a.toNat % 2 = 0) :
    Completes i s [] [] fun t => t.er = s.er ∧ t.pc = a :=
  completes_of_registers (h.trans (jumpTo_even ha)) (flagsAfter_nil rfl) ⟨rfl, rfl⟩

/-! ### Targets -/

/-- A displacement is its signed number, modulo 2^24. -/
theorem displacement_eq_ofInt (d : BranchDisp) : displacement d = BitVec.ofInt 24 (signedDisp d) := by
  cases d <;> rfl

/-- The machine's PC-relative target is the claim's (R92). -/
theorem pc_add_displacement (s : State) (d : BranchDisp) : s.pc + displacement d = branchTarget s d := by
  rw [branchTarget, BitVec.ofInt_add, displacement_eq_ofInt, BitVec.ofInt_natCast, BitVec.ofNat_toNat,
    BitVec.setWidth_eq]

/-- The address in a longword has its bit 0. -/
theorem addrOf_mod_two (v : Long) : (addrOf v).toNat % 2 = v.toNat % 2 := by
  rw [addrOf_toNat]
  omega

/-- A word is the same number as an address (R97). -/
theorem toNat_zeroExtend_word (w : Word) : (w.zeroExtend 24).toNat = w.toNat :=
  BitVec.toNat_setWidth_of_le (by decide)

/-- The address in a table entry: 4 bytes without the first in advanced mode, 2 bytes in normal mode (R93). -/
theorem memIndTarget_advanced {abs : Byte} {w : Long} (hm : s.platform.mode = .advanced)
    (hr : readLong s (BitVec.ofNat 24 abs.toNat) = .next w) : memIndTarget s abs = .next (addrOf w) :=
  readEntry_eq_next.2 (.inl ⟨hm, w, by rwa [BitVec.ofNat_toNat] at hr, rfl⟩)

theorem memIndTarget_normal {abs : Byte} {w : Word} (hm : s.platform.mode = .normal)
    (hr : readWord s (BitVec.ofNat 24 abs.toNat) = .next w) : memIndTarget s abs = .next (w.zeroExtend 24) :=
  readEntry_eq_next.2 (.inr ⟨hm, w, by rwa [BitVec.ofNat_toNat] at hr, rfl⟩)

theorem exec_jmpMemInd {abs : Byte} (h : memIndTarget s abs = .next a) : exec (.jmpMemInd abs) s = jumpTo s a :=
  andThen_of_next h

/-! ### Conditional branches -/

/-- A branch whose condition holds transfers control to its target (R361). -/
theorem branchIf_taken {k : Cond} (d : BranchDisp) (hk : k.holds s.ccr = true) :
    branchIf s k d = jumpTo s (branchTarget s d) := by
  rw [← pc_add_displacement]
  exact if_pos hk

/-- A branch whose condition does not hold goes on with the next instruction. -/
theorem branchIf_not_taken {k : Cond} (d : BranchDisp) (hk : k.holds s.ccr = false) : branchIf s k d = .next s :=
  if_neg (by simp [hk])

/-- Two flags are equal exactly if their exclusive or is 0. -/
theorem beq_eq_not_xor (x y : Bool) : (x == y) = !(x ^^ y) := by cases x <;> cases y <;> rfl

/-- GT in the form of the claim. -/
theorem not_and_beq_eq_not_or_xor (z x y : Bool) : (!z && (x == y)) = !(z || (x ^^ y)) := by
  rw [beq_eq_not_xor, Bool.not_or]

/-- Settles O28: each of the sixteen is a branch on its condition, which is taken or not. -/
theorem conditionalBranches : Obligations.ConditionalBranches := by
  intro s d p hp
  obtain ⟨k, hx, hk⟩ : ∃ k : Cond, exec p.1 s = branchIf s k d ∧ k.holds s.ccr = p.2 := by
    simp only [List.mem_cons, List.not_mem_nil, or_false] at hp
    rcases hp with rfl | rfl | rfl | rfl | rfl | rfl | rfl | rfl | rfl | rfl | rfl | rfl | rfl | rfl | rfl | rfl
    exacts [⟨.bra, rfl, rfl⟩, ⟨.brn, rfl, rfl⟩, ⟨.bhi, rfl, rfl⟩, ⟨.bls, rfl, rfl⟩, ⟨.bcc, rfl, rfl⟩,
      ⟨.bcs, rfl, rfl⟩, ⟨.bne, rfl, rfl⟩, ⟨.beq, rfl, rfl⟩, ⟨.bvc, rfl, rfl⟩, ⟨.bvs, rfl, rfl⟩, ⟨.bpl, rfl, rfl⟩,
      ⟨.bmi, rfl, rfl⟩, ⟨.bge, rfl, beq_eq_not_xor _ _⟩, ⟨.blt, rfl, rfl⟩, ⟨.bgt, rfl, not_and_beq_eq_not_or_xor _ _ _⟩,
      ⟨.ble, rfl, rfl⟩]
  refine ⟨fun ht even => ?_, fun ht odd => ?_, fun hf => ?_⟩
  · exact completes_of_jumpTo (hx.trans (branchIf_taken d (hk.trans ht))) even
  · exact (hx.trans (branchIf_taken d (hk.trans ht))).trans (jumpTo_odd odd)
  · exact completes_of_registers (hx.trans (branchIf_not_taken d (hk.trans hf))) (flagsAfter_nil rfl) ⟨rfl, rfl⟩

/-! ### Jumps -/

/-- Settles O30: each form transfers control to its target, which is read as a number. -/
theorem jumps : Obligations.Jumps := by
  refine fun s => ⟨fun ern even => ?_, fun abs => completes_of_jumpTo rfl, fun abs w hm hr even => ?_,
    fun abs w hm hr even => ?_⟩
  · exact (completes_of_jumpTo rfl ((addrOf_mod_two _).trans even)).mono fun t ⟨her, hpc⟩ =>
      ⟨her, hpc ▸ addrOf_toNat _⟩
  · have target := exec_jmpMemInd (memIndTarget_advanced hm hr)
    exact (completes_of_jumpTo target ((addrOf_mod_two w).trans even)).mono fun t ⟨her, hpc⟩ =>
      ⟨her, hpc ▸ addrOf_toNat w⟩
  · have target := exec_jmpMemInd (memIndTarget_normal hm hr)
    rw [← toNat_zeroExtend_word] at even
    exact (completes_of_jumpTo target even).mono fun t ⟨her, hpc⟩ => ⟨her, hpc ▸ toNat_zeroExtend_word w⟩

end Sys2Proof.Machine
end

section
/-!
SUPPORT. The conditions of Bcc after CMP (spec/45_branch.md R361): what the flags of a difference say of its operands,
and the obligation about them.
-/

namespace Sys2Proof.Machine

section
variable {w : Nat} (a b : BitVec w)

/-- Z after a difference tells that the operands are equal. -/
theorem subN_z : (subN a b false).z = decide (a = b) := by
  rw [Bool.eq_iff_iff, decide_eq_true_iff]
  simp [subN, BitVec.sub_eq_iff_eq_add]

/-- C after a difference tells that the first operand is the lower one. -/
theorem subN_c : (subN a b false).c = decide (a.toNat < b.toNat) := rfl

/-- N and V after a difference differ where the first operand is less: V tells that the sign in N is wrong. -/
theorem subN_n_bne_v (hw : w = 8 ∨ w = 16 ∨ w = 32) :
    ((subN a b false).n != (subN a b false).v) = decide (a.toInt < b.toInt) := by
  have hn : (subN a b false).n = decide ((differenceOf a b false).toInt < 0) := by
    rw [← msb_eq_neg, differenceOf_eq]; rfl
  have hd : (differenceOf a b false).toInt = (a.toInt - b.toInt).bmod (2 ^ w) := by simp [differenceOf]
  have ha := a.two_mul_toInt_lt
  have ha' := a.le_two_mul_toInt
  have hb := b.two_mul_toInt_lt
  have hb' := b.le_two_mul_toInt
  rw [hn, subN_v hw, hd, Bool.eq_iff_iff, bne_iff_ne, ne_eq, decide_eq_decide, decide_eq_true_iff]
  generalize a.toInt = x at *
  generalize b.toInt = y at *
  rcases hw with rfl | rfl | rfl <;> simp only [Int.bmod_def, Bool.toNat_false] <;> omega

end

/-- The ten conditions that order the operands, as a claim states them. -/
def OrderConditions {w : Nat} (ccr : Byte) (a b : BitVec w) : Prop :=
  Cond.holds .bhi ccr = decide (a.toNat > b.toNat) ∧ Cond.holds .bls ccr = decide (a.toNat ≤ b.toNat) ∧
    Cond.holds .bcc ccr = decide (a.toNat ≥ b.toNat) ∧ Cond.holds .bcs ccr = decide (a.toNat < b.toNat) ∧
    Cond.holds .bne ccr = decide (a ≠ b) ∧ Cond.holds .beq ccr = decide (a = b) ∧
    Cond.holds .bge ccr = decide (a.toInt ≥ b.toInt) ∧ Cond.holds .blt ccr = decide (a.toInt < b.toInt) ∧
    Cond.holds .bgt ccr = decide (a.toInt > b.toInt) ∧ Cond.holds .ble ccr = decide (a.toInt ≤ b.toInt)

/-- The conditions are those of two numbers where Z, C and N ≠ V are "equal", "lower" and "less". -/
theorem orderConditions_of_flags {w : Nat} {ccr : Byte} {a b : BitVec w} (hz : ccrGet ccr .z = decide (a = b))
    (hc : ccrGet ccr .c = decide (a.toNat < b.toNat))
    (hlt : (ccrGet ccr .n != ccrGet ccr .v) = decide (a.toInt < b.toInt)) : OrderConditions ccr a b := by
  have hge : (ccrGet ccr .n == ccrGet ccr .v) = !decide (a.toInt < b.toInt) := by rw [← hlt, bne, Bool.not_not]
  have unsigned : a = b ↔ a.toNat = b.toNat := BitVec.toNat_inj.symm
  have signed : a = b ↔ a.toInt = b.toInt := BitVec.toInt_inj.symm
  simp only [OrderConditions, Cond.holds, hz, hc, hlt, hge, ← decide_not, ← Bool.decide_or, ← Bool.decide_and,
    decide_eq_decide]
  refine ⟨?_, ?_, Nat.not_lt, trivial, trivial, trivial, Int.not_lt, trivial, ?_, ?_⟩
  · rw [unsigned]; omega
  · rw [unsigned]; omega
  · rw [signed]; omega
  · rw [signed]; omega

theorem orderConditions_compare {w : Nat} (ccr : Byte) (a b : BitVec w) (hw : w = 8 ∨ w = 16 ∨ w = 32 := by decide) :
    OrderConditions (ccrPutArith ccr (subN a b false)) a b := by
  refine orderConditions_of_flags ?_ ?_ ?_ <;> simp only [ccrGet_ccrPutArith]
  · exact subN_z a b
  · exact subN_c a b
  · exact subN_n_bne_v a b hw

/-- Settles O29: CMP writes the flags of the difference of its operands, in each size. -/
theorem conditionsAfterCompare : Obligations.ConditionsAfterCompare := fun s =>
  ⟨fun _ _ => ⟨_, rfl, orderConditions_compare s.ccr _ _⟩, fun _ _ => ⟨_, rfl, orderConditions_compare s.ccr _ _⟩,
    fun _ _ => ⟨_, rfl, orderConditions_compare s.ccr _ _⟩⟩

end Sys2Proof.Machine
end

section
/-!
SUPPORT. Subroutine calls and returns (spec/45_branch.md R379 to R382): what a push of the return address changes, where
the popped address goes, and the obligations about calls, returns and odd targets.
-/

namespace Sys2Proof.Machine

variable {i : Instr} {s t : State} {a : Addr}

/-! ### The return address on the stack -/

/-- SP after the push of a return address. -/
def callSp (s : State) : Long := pushedSp s (returnSize s.platform)

/-- The cells that the push stores, `any` being the reserved byte of advanced mode. -/
def callCells (s : State) (any : Byte) : List (Addr × Byte) := returnCells s.platform (addrOf (callSp s)) any s.pc

/-- The write of a return address in the width of the mode. -/
def writeReturn (p : Platform) (a : Addr) (any : Byte) (pc : Addr) (s : State) : Res State :=
  match p.mode with
  | .advanced => writeLong s a (any ++ pc)
  | .normal => writeWord s a (pc.extractLsb' 0 16)

theorem writeReturn_writes (p : Platform) (a : Addr) (any : Byte) (pc : Addr) :
    Writes (writeReturn p a any pc) (returnCells p a any pc) := by
  unfold writeReturn returnCells
  cases p.mode with
  | advanced => exact writeLong_writes a _
  | normal => exact writeWord_writes a _

/-- The push: SP moves down, then the return address is written there; in advanced mode a free value is drawn (R379). -/
theorem pushReturn_eq_writeReturn (s : State) :
    ∃ d, pushReturn s = writeReturn s.platform (addrOf (callSp s)) (Config.freeBits 8 s.draws) s.pc
      ((writeEr s spNum (callSp s)).drawn d) := by
  unfold pushReturn writeReturn callSp returnSize
  cases s.platform.mode with
  | advanced => exact ⟨1, by simp only [eaInd_dropEr]; rfl⟩
  | normal => exact ⟨0, by simp only [eaInd_dropEr]; rfl⟩

/-- Which addresses are stored to does not depend on the reserved byte. -/
theorem writable_callCells_congr {x : Byte} (y : Byte) (h : Writable s (callCells s x)) :
    Writable s (callCells s y) := by
  cases hm : s.platform.mode <;> simpa [Writable, callCells, returnCells, longCells, hm] using h

/-- From `s` to `t` the return address has been pushed, and nothing but SP and its slot differs. -/
structure Pushed (s t : State) (any : Byte) : Prop where
  sp : OnlyEr s t spNum (callSp s)
  ccr : t.ccr = s.ccr
  slot : MemoryAfter s t (callCells s any)
  env : EnvKept s t

/-- The push completes where its slot is `ram`. -/
theorem pushReturn_pushed (hw : Writable s (callCells s 0#8)) : ∃ any t, pushReturn s = .next t ∧ Pushed s t any := by
  obtain ⟨d, h⟩ := pushReturn_eq_writeReturn s
  have hf := writeReturn_writes s.platform (addrOf (callSp s)) (Config.freeBits 8 s.draws) s.pc
  have ram := writable_callCells_congr (Config.freeBits 8 s.draws) hw
  obtain ⟨t, ht⟩ := (hf.complete_iff ((writeEr s spNum (callSp s)).drawn d)).2 ((writable_congr rfl _).2 ram)
  have kept := hf.memoryOnly ht
  have slot := hf.memoryAfter ht
  exact ⟨_, t, h.trans ht, onlyEr_of_er kept.er, kept.ccr, slot,
    kept.sleeping, kept.irq, kept.startPending, kept.platform⟩

/-! ### Calls -/

/-- A call of the subroutine at `a`: the return address is pushed, then control goes there (R379, R380). -/
def callTo (s : State) (a : Addr) : Res State := andThen (pushReturn s) fun t => jumpTo t a

theorem exec_bsr (s : State) (d : BranchDisp) : exec (.bsr d) s = callTo s (branchTarget s d) := by
  rw [← pc_add_displacement]
  rfl

theorem exec_jsrInd {ern : ErNum} (h : ern ≠ spNum) : exec (.jsrInd ern) s = callTo s (eaInd s ern) :=
  if_neg (by simpa using h)

theorem exec_jsrMemInd {abs : Byte} (h : memIndTarget s abs = .next a) : exec (.jsrMemInd abs) s = callTo s a :=
  andThen_of_next h

/-- A call of an even address completes where its slot is `ram`. -/
theorem callTo_even (hw : Writable s (callCells s 0#8)) (ha : a.toNat % 2 = 0) :
    ∃ any t, callTo s a = .next t ∧ Pushed s t any ∧ t.pc = a := by
  obtain ⟨any, t, ht, sp, ccr, slot, env⟩ := pushReturn_pushed hw
  -- What holds of `t` holds of `t.setPc a` as it stands: none of it speaks of PC.
  exact ⟨any, t.setPc a, (andThen_of_next ht).trans (jumpTo_even ha),
    ⟨sp, ccr, slot, env.sleeping, env.irq, env.startPending, env.platform⟩, rfl⟩

theorem completes_of_callTo (hw : Writable s (callCells s 0#8)) (h : exec i s = callTo s a) (ha : a.toNat % 2 = 0) :
    ∃ any, Completes i s [] (callCells s any) fun t => OnlyEr s t spNum (callSp s) ∧ t.pc = a := by
  obtain ⟨any, t, ht, hp, hpc⟩ := callTo_even hw ha
  exact ⟨any, t, h.trans ht, flagsAfter_nil hp.ccr, hp.slot, hp.env, hp.sp, hpc⟩

/-- A call of an odd address is refused, after its push. -/
theorem callTo_odd (hw : Writable s (callCells s 0#8)) (ha : a.toNat % 2 = 1) : callTo s a = .refused .oddTarget := by
  obtain ⟨any, t, ht, -⟩ := pushReturn_pushed hw
  exact (andThen_of_next ht).trans (jumpTo_odd ha)

/-- Settles O31: each form is a call of its target, which is taken before the push. -/
theorem subroutineCalls : Obligations.SubroutineCalls := fun s hw =>
  ⟨fun d => completes_of_callTo hw (exec_bsr s d), fun _ hn => completes_of_callTo hw (exec_jsrInd hn),
    fun _ => completes_of_callTo hw rfl, fun _ _ ht => completes_of_callTo hw (exec_jsrMemInd ht)⟩

/-! ### Returns -/

/-- The popped address in each mode (R381). -/
theorem exec_rts_advanced {w : Long} (hm : s.platform.mode = .advanced) (hr : readLong s (eaInd s spNum) = .next w) :
    exec .rts s = jumpTo (bumpEr s spNum 4#32) (addrOf w) := by
  change popReturn s = _
  simp only [popReturn, hm, hr, andThen_next, addrOf]

theorem exec_rts_normal {w : Word} (hm : s.platform.mode = .normal) (hr : readWord s (eaInd s spNum) = .next w) :
    exec .rts s = jumpTo (bumpEr s spNum 2#32) (w.zeroExtend 24) := by
  change popReturn s = _
  simp only [popReturn, hm, hr, andThen_next]

theorem completes_of_pop {x : Long} (h : exec i s = jumpTo (bumpEr s spNum x) a) (ha : a.toNat % 2 = 0) :
    Completes i s [] [] fun t => OnlyEr s t spNum (readEr s spNum + x) ∧ t.pc = a :=
  completes_of_registers (h.trans (jumpTo_even ha)) (flagsAfter_nil rfl) ⟨onlyEr_writeEr s spNum _, rfl⟩

/-- Settles O32: in each mode control goes to the popped address, which is read as a number. -/
theorem returnFromSubroutine : Obligations.ReturnFromSubroutine := by
  refine fun s => ⟨fun w hm hr even => ?_, fun w hm hr even => ?_⟩
  · exact (completes_of_pop (exec_rts_advanced hm hr) ((addrOf_mod_two w).trans even)).mono fun t ⟨hsp, hpc⟩ =>
      ⟨hsp, hpc ▸ addrOf_toNat w⟩
  · rw [← toNat_zeroExtend_word] at even
    exact (completes_of_pop (exec_rts_normal hm hr) even).mono fun t ⟨hsp, hpc⟩ =>
      ⟨hsp, hpc ▸ toNat_zeroExtend_word w⟩

/-! ### A call and its return -/

/-- A pushed address is what RTS pops, and SP is as before the push; in normal mode the slot holds 16 bits of it. -/
theorem exec_rts_of_pushed {any : Byte} (h : Pushed s t any) :
    ∃ target, target.toNat = busAddr s.platform s.pc ∧
      exec .rts t = jumpTo (writeEr t spNum (readEr s spNum)) target := by
  obtain ⟨⟨sp, -⟩, -, slot, env⟩ := h
  have address : eaInd t spNum = addrOf (callSp s) := congrArg addrOf sp
  have up : bumpEr t spNum (BitVec.ofNat 32 (returnSize s.platform)) = writeEr t spNum (readEr s spNum) := by
    rw [bumpEr, sp, callSp, pushedSp, BitVec.sub_add_cancel]
  cases hm : s.platform.mode with
  | advanced =>
    have read : readLong t (eaInd t spNum) = .next (any ++ s.pc) := by
      simp only [callCells, returnCells, hm] at slot
      exact address ▸ slot.readLong_cells (longCells_apart _ _ _) (List.Subset.refl _)
    have popped : addrOf (any ++ s.pc) = s.pc := BitVec.extractLsb'_append_eq_right
    refine ⟨s.pc, by simp only [busAddr, hm], ?_⟩
    rw [exec_rts_advanced (env.platform ▸ hm) read, popped, ← up]
    simp only [returnSize, hm]
  | normal =>
    have read : readWord t (eaInd t spNum) = .next (s.pc.extractLsb' 0 16) := by
      simp only [callCells, returnCells, hm] at slot
      exact address ▸ slot.readWord_cells (wordCells_apart _ _ _) (List.Subset.refl _)
    refine ⟨(s.pc.extractLsb' 0 16).zeroExtend 24, ?_, ?_⟩
    · rw [toNat_zeroExtend_word, BitVec.extractLsb'_toNat, Nat.shiftRight_zero]
      simp only [busAddr, hm]
    · rw [exec_rts_normal (env.platform ▸ hm) read, ← up]
      simp only [returnSize, hm]

/-- Dropping the address bits above the bus keeps bit 0. -/
theorem busAddr_mod_two (p : Platform) (a : Addr) : busAddr p a % 2 = a.toNat % 2 := by
  rw [busAddr_eq_mod]
  cases p.mode <;> simp only <;> omega

/-- Settles O33: RTS pops the address that the call pushed, and takes back its decrement of SP. -/
theorem callThenReturn : Obligations.CallThenReturn := by
  intro s even hw i hi
  obtain ⟨a, call, ha⟩ : ∃ a, exec i s = callTo s a ∧ a.toNat % 2 = 0 := by
    rcases hi with ⟨d, rfl, ha⟩ | ⟨ern, rfl, hn, ha⟩ | ⟨abs, rfl, ha⟩ | ⟨abs, a, rfl, hr, ha⟩
    exacts [⟨_, exec_bsr s d, ha⟩, ⟨_, exec_jsrInd hn, ha⟩, ⟨_, rfl, ha⟩, ⟨_, exec_jsrMemInd hr, ha⟩]
  obtain ⟨any, t, ht, pushed, -⟩ := callTo_even hw ha
  obtain ⟨target, htarget, rts⟩ := exec_rts_of_pushed pushed
  have even' : target.toNat % 2 = 0 := by rw [htarget, busAddr_mod_two, even]
  exact ⟨t, _, call.trans ht, rts.trans (jumpTo_even even'), htarget,
    pushed.sp.er_restored (onlyEr_writeEr t spNum _), pushed.ccr⟩

/-! ### Odd targets -/

/-- RTE goes to the address in its frame, whose bit 0 is that of the longword in both modes (R390). -/
theorem exec_rte {w : Long} (h : readLong s (eaInd s spNum) = .next w) :
    ∃ target, target.toNat % 2 = w.toNat % 2 ∧
      exec .rte s = jumpTo ((bumpEr s spNum 4#32).setCcr (w.extractLsb' 24 8)) target := by
  change ∃ target, _ ∧ exceptionReturn s = _
  unfold exceptionReturn
  rw [h, andThen_next]
  refine ⟨_, ?_, rfl⟩
  cases s.platform.mode with
  | advanced => exact addrOf_mod_two w
  | normal =>
    simp only [toNat_zeroExtend_word, BitVec.extractLsb'_toNat, Nat.shiftRight_zero]
    omega

/-- Settles O34: each form transfers control to its target, the calls after their push and the returns from the
popped address. -/
theorem oddTargetsRefused : Obligations.OddTargetsRefused := by
  refine fun s => ⟨fun ern odd => jumpTo_odd ((addrOf_mod_two _).trans odd), fun abs => jumpTo_odd,
    fun abs a ht odd => (exec_jmpMemInd ht).trans (jumpTo_odd odd), fun hw => ⟨fun d odd => ?_, fun ern hn odd => ?_,
      fun abs => callTo_odd hw, fun abs a ht odd => ?_⟩, fun w hm hr odd => ?_, fun w hm hr odd => ?_,
    fun w hr odd => ?_⟩
  · exact (exec_bsr s d).trans (callTo_odd hw odd)
  · exact (exec_jsrInd hn).trans (callTo_odd hw ((addrOf_mod_two _).trans odd))
  · exact (exec_jsrMemInd ht).trans (callTo_odd hw odd)
  · exact (exec_rts_advanced hm hr).trans (jumpTo_odd ((addrOf_mod_two w).trans odd))
  · exact (exec_rts_normal hm hr).trans (jumpTo_odd (by rwa [toNat_zeroExtend_word]))
  · obtain ⟨target, htarget, rte⟩ := exec_rte hr
    exact rte.trans (jumpTo_odd (htarget.trans odd))

end Sys2Proof.Machine
end

section
/-!
SUPPORT. CCR as a whole (spec/46_system_control.md R391 to R400): its eight flags from a byte, its moves between
registers and memory, and the obligations about them.
-/

namespace Sys2Proof.Machine

variable {i : Instr} {s t : State} {a : Addr}

/-! ### All eight flags -/

/-- The list that a claim makes of a byte names every flag. -/
theorem lookup_ccrBits (v : Byte) (f : CcrBit) : (ccrBits v).lookup f = some (ccrGet v f) := by cases f <;> rfl

theorem flagsAfter_ccrBits {v : Byte} (h : t.ccr = v) : FlagsAfter s t (ccrBits v) := by
  intro f
  rw [lookup_ccrBits, h, Option.getD_some]

theorem givesFlags_of_setCcr {v : Byte} (h : exec i s = .next (s.setCcr v)) : GivesFlags i s (ccrBits v) :=
  completes_of_registers h (flagsAfter_ccrBits rfl) ⟨rfl, rfl⟩

/-- An operation on CCR as a whole (R397 to R399), whose flags are `b`. -/
theorem givesFlags_of_setCcr_bitwise {v : Byte} {b : CcrBit → Bool} (h : exec i s = .next (s.setCcr v))
    (hb : ∀ f, ccrGet v f = b f) : ∃ l, GivesFlags i s l ∧ ∀ f, l.lookup f = some (b f) :=
  ⟨ccrBits v, givesFlags_of_setCcr h, fun f => hb f ▸ lookup_ccrBits v f⟩

/-- Settles O41: each form sets CCR as a whole, one register, the sleep, or nothing. -/
theorem ccrRegisterForms : Obligations.CcrRegisterForms := fun s =>
  ⟨fun _ => givesFlags_of_setCcr rfl, fun _ => givesFlags_of_setCcr rfl,
    fun _ => givesR8_of_write (c := s.ccr) (d := 0) (flagsAfter_nil rfl) rfl,
    fun imm => givesFlags_of_setCcr_bitwise rfl (ccrGet_and s.ccr imm),
    fun imm => givesFlags_of_setCcr_bitwise rfl (ccrGet_or s.ccr imm),
    fun imm => givesFlags_of_setCcr_bitwise rfl (ccrGet_xor s.ccr imm),
    rfl, s.setSleeping true, rfl, rfl, rfl, rfl, rfl, memoryAfter_nil rfl rfl rfl, rfl, rfl, rfl⟩

/-! ### CCR from memory -/

/-- LDC.W takes CCR from the even byte of the word (R394), whatever the general registers become. -/
theorem completes_of_loadCcr {e : Vector Long 8} {w : Word} (h : exec i s = loadCcr s a (s.setEr e))
    (hr : readWord s a = .next w) :
    Completes i s (ccrBits (w.extractLsb' 8 8)) [] fun t => t.er = e ∧ t.pc = s.pc :=
  completes_of_registers (h.trans (andThen_of_next hr)) (flagsAfter_ccrBits rfl) ⟨rfl, rfl⟩

/-- Settles O42: each form reads its operand; `@ERs+` increments ERs besides. -/
theorem ldcFromMemory : Obligations.LdcFromMemory := fun _ =>
  ⟨fun _ _ => completes_of_loadCcr rfl, fun _ _ _ => completes_of_loadCcr rfl, fun _ _ _ => completes_of_loadCcr rfl,
    fun _ _ => completes_of_loadCcr rfl, fun _ _ => completes_of_loadCcr rfl,
    fun _ _ hr => (completes_of_loadCcr rfl hr).mono fun _ ⟨her, hpc⟩ => ⟨onlyEr_of_er her, hpc⟩⟩

/-! ### CCR to memory -/

/-- Which addresses a word is stored to does not depend on the word. -/
theorem writable_wordCells_congr {v : Word} (w : Word) (h : Writable s (wordCells a v)) :
    Writable s (wordCells a w) := by
  simpa [Writable, wordCells] using h

/-- A write after which nothing but memory, general registers and the counter of free values differs. -/
theorem Writes.completes {g : State → Res State} {cells : List (Addr × Byte)} {e : Vector Long 8} {d : Nat}
    (hg : Writes g cells) (h : exec i s = g ((s.setEr e).drawn d)) (hw : Writable s cells) :
    Completes i s [] cells fun t => t.er = e ∧ t.pc = s.pc := by
  obtain ⟨t, ht⟩ := (hg.complete_iff ((s.setEr e).drawn d)).2 ((writable_congr rfl cells).2 hw)
  have kept := hg.memoryOnly ht
  have stored := hg.memoryAfter ht
  exact ⟨t, h.trans ht, flagsAfter_nil kept.ccr, stored,
    ⟨kept.sleeping, kept.irq, kept.startPending, kept.platform⟩, kept.er, kept.pc⟩

/-- STC.W puts CCR at the even address and a free value at the odd one (R396), whatever the general registers became. -/
theorem completes_of_saveCcr {e : Vector Long 8} (h : exec i s = saveCcr (s.setEr e) a)
    (hw : Writable s (wordCells a 0#16)) :
    ∃ any : Byte, Completes i s [] (wordCells a (s.ccr ++ any)) fun t => t.er = e ∧ t.pc = s.pc :=
  ⟨_, (writeWord_writes a _).completes h (writable_wordCells_congr _ hw)⟩

/-- STC.W @-ERd stores at the decremented address (R87). -/
theorem exec_stcWDec (s : State) (erd : ErNum) :
    exec (.stcWDec erd) s = saveCcr (dropEr s erd 2#32) (addrOf (readEr s erd - 2#32)) := by
  rw [← eaInd_dropEr]
  rfl

/-- Settles O43: each form writes its word at its address; `@-ERd` decrements ERd before. -/
theorem stcToMemory : Obligations.StcToMemory := by
  refine fun s => ⟨fun _ => completes_of_saveCcr rfl, fun _ _ => completes_of_saveCcr rfl,
    fun _ _ => completes_of_saveCcr rfl, fun _ => completes_of_saveCcr rfl, fun _ => completes_of_saveCcr rfl,
    fun erd hw => ?_⟩
  obtain ⟨any, stored⟩ := completes_of_saveCcr (exec_stcWDec s erd) hw
  exact ⟨any, stored.mono fun t ⟨her, hpc⟩ => ⟨onlyEr_of_er her, hpc⟩⟩

end Sys2Proof.Machine
end

section
/-!
SUPPORT. Exception entry and the return from it (spec/60_exceptions.md R445; spec/46_system_control.md R390, R401,
R402): what the saved frame holds, that the vector is read past it, and the obligations about TRAPA and RTE.
-/

namespace Sys2Proof.Machine

variable {i : Instr} {s t : State} {v : VectorNum} {target : Addr}

/-! ### Reads of bytes that are as before -/

theorem readWord_eq_of_bytes {a : Addr} (h : ∀ k < 2, readByte t (evenAddr a + BitVec.ofNat 24 k) =
    readByte s (evenAddr a + BitVec.ofNat 24 k)) : readWord t a = readWord s a := by
  have first := h 0 (by decide)
  have second := h 1 (by decide)
  simp only [BitVec.add_zero] at first
  simp only [readWord, first, second]

theorem readLong_eq_of_bytes {a : Addr} (h : ∀ k < 4, readByte t (evenAddr a + BitVec.ofNat 24 k) =
    readByte s (evenAddr a + BitVec.ofNat 24 k)) : readLong t a = readLong s a := by
  have upper : readWord t (evenAddr a) = readWord s (evenAddr a) :=
    readWord_eq_of_bytes fun k hk => by
      rw [evenAddr_evenAddr]
      exact h k (by omega)
  have lower : readWord t (evenAddr a + 2#24) = readWord s (evenAddr a + 2#24) :=
    readWord_eq_of_bytes fun k hk => by
      rw [evenAddr_add_two, BitVec.add_assoc, ← BitVec.ofNat_add]
      exact h (2 + k) (by omega)
  simp only [readLong, upper, lower]

/-- A byte that no cell is stored to reads as before. -/
theorem MemoryAfter.readByte_other {cells : List (Addr × Byte)} (h : MemoryAfter s t cells) {a : Addr}
    (ha : ∀ c ∈ cells, busAddr s.platform c.1 ≠ busAddr s.platform a) : readByte t a = readByte s a := by
  rw [h.1, List.find?_eq_none.2 (by simpa using ha)]

/-! ### The vector -/

/-- Entry `v` begins at `v` times the size of an entry (R97). -/
theorem vectorAddr_eq (p : Platform) (v : VectorNum) : vectorAddr p v = BitVec.ofNat 24 (returnSize p * v.val) := by
  unfold vectorAddr returnSize
  cases p.mode <;> rfl

theorem returnSize_eq (p : Platform) : returnSize p = 2 ∨ returnSize p = 4 := by
  unfold returnSize
  cases p.mode <;> simp

/-- The whole table lies below the end of the space in both modes. -/
theorem busAddr_vectorAddr_add (p : Platform) (v : VectorNum) {k : Nat} (hk : k < returnSize p) :
    busAddr p (evenAddr (vectorAddr p v) + BitVec.ofNat 24 k) = returnSize p * v.val + k := by
  have hv : v.val < 61 := v.isLt
  rw [busAddr_eq_mod, vectorAddr_eq, BitVec.toNat_add, evenAddr_toNat, BitVec.toNat_ofNat, BitVec.toNat_ofNat]
  rcases returnSize_eq p with e | e <;> rw [e] at hk ⊢ <;> cases p.mode <;> simp only <;> omega

/-- The handler address depends on the bytes of its entry alone. -/
theorem readVector_eq_of_bytes (hp : t.platform = s.platform) (h : ∀ k < returnSize s.platform,
    readByte t (evenAddr (vectorAddr s.platform v) + BitVec.ofNat 24 k) =
      readByte s (evenAddr (vectorAddr s.platform v) + BitVec.ofNat 24 k)) : readVector t v = readVector s v := by
  unfold readVector readEntry
  rw [hp]
  cases hm : s.platform.mode with
  | advanced => simp only [readLong_eq_of_bytes (t := t) (s := s) (by simpa only [returnSize, hm] using h)]
  | normal => simp only [readWord_eq_of_bytes (t := t) (s := s) (by simpa only [returnSize, hm] using h)]

/-- Stores beside its entry leave the handler address as it is. -/
theorem MemoryAfter.readVector_other {cells : List (Addr × Byte)} (h : MemoryAfter s t cells)
    (hp : t.platform = s.platform)
    (apart : ∀ c ∈ cells, ∀ k < returnSize s.platform, busAddr s.platform c.1 ≠ returnSize s.platform * v.val + k) :
    readVector t v = readVector s v :=
  readVector_eq_of_bytes hp fun k hk => h.readByte_other fun c hc => by
    rw [busAddr_vectorAddr_add s.platform v hk]
    exact apart c hc k hk

/-! ### The frame -/

/-- The cells of the saved longword are those of a claim, the filler byte of normal mode being a free value (R445). -/
theorem frameCells_eq_longCells (s : State) (a : Addr) :
    frameCells s.platform a s.ccr (Config.freeBits 8 s.draws) s.pc = longCells a (exceptionFrame s) := by
  unfold frameCells exceptionFrame
  cases s.platform.mode <;> rfl

/-- Which addresses the frame takes does not depend on what it holds. -/
theorem forall_longCells_of_frameCells {p : Platform} {a : Addr} {c any : Byte} {pc : Addr} {w : Long}
    (P : Addr → Prop) (h : ∀ x ∈ frameCells p a c any pc, P x.1) : ∀ x ∈ longCells a w, P x.1 := by
  unfold frameCells at h
  cases hm : p.mode <;> simpa [longCells, hm] using h

/-- The frame holds CCR in its first byte, and the address as the bus takes it in the others. -/
theorem exceptionFrame_ccr (s : State) : (exceptionFrame s).extractLsb' 24 8 = s.ccr := by
  unfold exceptionFrame
  cases s.platform.mode with
  | advanced => exact BitVec.extractLsb'_append_eq_left
  | normal =>
    exact (BitVec.extractLsb'_append_eq_of_le (by decide)).trans BitVec.extractLsb'_append_eq_left

theorem exceptionFrame_pc (s : State) : busAddr s.platform (addrOf (exceptionFrame s)) = busAddr s.platform s.pc := by
  unfold exceptionFrame
  cases hm : s.platform.mode with
  | advanced => exact congrArg (busAddr s.platform) BitVec.extractLsb'_append_eq_right
  | normal =>
    have low : (s.ccr ++ Config.freeBits 8 s.draws ++ s.pc.extractLsb' 0 16).extractLsb' 0 16 =
        s.pc.extractLsb' 0 16 := BitVec.extractLsb'_append_eq_right
    replace low := congrArg BitVec.toNat low
    simp only [toNat_extractLsb'_zero] at low
    simp only [busAddr, hm, addrOf_toNat]
    omega

/-- Exception entry has taken place: the frame is stored below SP, I is set, the sleep has ended and PC is the handler's
address; everything else is as before (R445). -/
structure Entered (s t : State) (target : Addr) : Prop where
  sp : OnlyEr s t spNum (pushedSp s 4)
  ccr : t.ccr = ccrPut s.ccr .i true
  frame : MemoryAfter s t (longCells (addrOf (pushedSp s 4)) (exceptionFrame s))
  pc : t.pc = target
  env : EnvKept (s.setSleeping false) t

/-- Before the frame is stored only SP, the sleep and the counter of free values have changed. -/
theorem exceptionEntry_eq (v : VectorNum) (s : State) :
    ∃ d, exceptionEntry v s =
      andThen (writeLong (((s.setSleeping false).setEr (writeEr s spNum (pushedSp s 4)).er).drawn d)
        (addrOf (pushedSp s 4)) (exceptionFrame s)) fun u =>
      andThen (readVector (u.setCcr (ccrPut u.ccr .i true)) v) fun target =>
        jumpTo (u.setCcr (ccrPut u.ccr .i true)) target := by
  unfold exceptionEntry
  simp only [eaInd_dropEr]
  unfold afterFrame
  cases (dropEr (s.setSleeping false) spNum 4#32).platform.mode with
  | advanced => exact ⟨0, rfl⟩
  | normal => exact ⟨1, rfl⟩

theorem exceptionEntry_entered (h : EntryReady s v target) : ∃ t, exceptionEntry v s = .next t ∧ Entered s t target := by
  obtain ⟨ram, vector, apart, even⟩ := h
  obtain ⟨d, entry⟩ := exceptionEntry_eq v s
  have hf := writeLong_writes (addrOf (pushedSp s 4)) (exceptionFrame s)
  obtain ⟨u, hu⟩ := (hf.complete_iff (((s.setSleeping false).setEr (writeEr s spNum (pushedSp s 4)).er).drawn d)).2
    (forall_longCells_of_frameCells (fun a => classOf s.platform (busAddr s.platform a) = .ram) ram)
  have kept := hf.memoryOnly hu
  have stored := hf.memoryAfter hu
  have frame : MemoryAfter s u (longCells (addrOf (pushedSp s 4)) (exceptionFrame s)) := stored
  have handler : readVector u v = .next target :=
    (frame.readVector_other kept.platform (forall_longCells_of_frameCells (fun a => ∀ k < returnSize s.platform,
      busAddr s.platform a ≠ returnSize s.platform * v.val + k) apart)).trans vector
  -- `handler` and `frame` serve as they are after I is set and PC is loaded: neither speaks of CCR or PC.
  refine ⟨(u.setCcr (ccrPut u.ccr .i true)).setPc target, ?_, onlyEr_of_er kept.er, ?_, frame, rfl, ?_⟩
  · rw [entry, hu, andThen_next]
    exact (andThen_of_next handler).trans (jumpTo_eq_next.2 ⟨even, rfl⟩)
  · rw [setPc_ccr, setCcr_ccr, kept.ccr]
    rfl
  · exact ⟨kept.sleeping, kept.irq, kept.startPending, kept.platform⟩

/-- Settles O35: TRAPA is the exception entry of its vector, which ends no sleep when the CPU is awake. -/
theorem trapEntry : Obligations.TrapEntry := by
  intro s k target awake ready
  obtain ⟨t, ht, sp, ccr, frame, pc, env⟩ := exceptionEntry_entered ready
  refine ⟨_, t, ht, fun f => ?_, frameCells_eq_longCells s _ ▸ frame, ?_, sp, pc⟩
  · rw [ccr]
    exact flagsAfter_ccrPut .i true f
  · exact ⟨env.sleeping.trans awake.symm, env.irq, env.startPending, env.platform⟩

/-! ### The return -/

/-- RTE goes to the address in its frame as the bus takes it, 24 bits or 16 by the mode (R390). -/
theorem exec_rte_eq_jumpTo {w : Long} (h : readLong s (eaInd s spNum) = .next w) :
    ∃ target, target.toNat = busAddr s.platform (addrOf w) ∧
      exec .rte s = jumpTo ((bumpEr s spNum 4#32).setCcr (w.extractLsb' 24 8)) target := by
  change ∃ target, _ ∧ exceptionReturn s = _
  unfold exceptionReturn
  rw [h, andThen_next]
  refine ⟨_, ?_, rfl⟩
  cases hm : s.platform.mode with
  | advanced => simp only [busAddr, hm, addrOf]
  | normal =>
    simp only [busAddr, hm, toNat_zeroExtend_word, addrOf_toNat, toNat_extractLsb'_zero]
    omega

/-- CCR is the top byte of the popped frame, and SP moves past it. -/
theorem completes_rte {w : Long} (hr : readLong s (eaInd s spNum) = .next w) (even : w.toNat % 2 = 0) :
    Completes .rte s (ccrBits (w.extractLsb' 24 8)) [] fun t =>
      OnlyEr s t spNum (readEr s spNum + 4#32) ∧ t.pc.toNat = busAddr s.platform (addrOf w) := by
  obtain ⟨target, htarget, rte⟩ := exec_rte_eq_jumpTo hr
  have even' : target.toNat % 2 = 0 := by rw [htarget, busAddr_mod_two, addrOf_mod_two, even]
  exact completes_of_registers (rte.trans (jumpTo_even even')) (flagsAfter_ccrBits rfl)
    ⟨onlyEr_writeEr s spNum _, htarget⟩

/-- The flags in a popped longword. -/
theorem ccrBits_extractLsb' (w : Long) : ccrBits (w.extractLsb' 24 8) =
    [(.i, w.getLsbD 31), (.ui, w.getLsbD 30), (.h, w.getLsbD 29), (.u, w.getLsbD 28), (.n, w.getLsbD 27),
      (.z, w.getLsbD 26), (.v, w.getLsbD 25), (.c, w.getLsbD 24)] := by
  simp [ccrBits]

/-- Settles O36: the address in the frame as the bus takes it is its low 24 or its low 16 bits. -/
theorem returnFromException : Obligations.ReturnFromException := by
  refine fun s => ⟨fun w hm hr even => ?_, fun w hm hr even => ?_⟩ <;> rw [← ccrBits_extractLsb']
  · refine (completes_rte hr even).mono fun t ⟨hsp, hpc⟩ => ⟨hsp, ?_⟩
    rw [hpc, busAddr_eq_mod, hm, addrOf_toNat]
    exact Nat.mod_mod _ _
  · refine (completes_rte hr even).mono fun t ⟨hsp, hpc⟩ => ⟨hsp, ?_⟩
    rw [hpc, busAddr_eq_mod, hm, addrOf_toNat]
    exact Nat.mod_mod_of_dvd _ (by decide)

/-! ### TRAPA and its return -/

/-- The frame that exception entry saved is what RTE pops. -/
theorem Entered.readLong_frame (h : Entered s t target) : readLong t (eaInd t spNum) = .next (exceptionFrame s) := by
  obtain ⟨⟨sp, -⟩, -, frame, -, -⟩ := h
  have address : eaInd t spNum = addrOf (pushedSp s 4) := congrArg addrOf sp
  exact address ▸ frame.readLong_cells (longCells_apart _ _ _) (List.Subset.refl _)

/-- Settles O37: RTE pops the frame that TRAPA saved, and takes back its decrement of SP. -/
theorem trapThenReturn : Obligations.TrapThenReturn := by
  intro s k target _ even ready
  obtain ⟨t, ht, entered⟩ := exceptionEntry_entered ready
  obtain ⟨back, hback, rte⟩ := exec_rte_eq_jumpTo entered.readLong_frame
  rw [entered.env.platform, setSleeping_platform, exceptionFrame_pc] at hback
  have even' : back.toNat % 2 = 0 := by rw [hback, busAddr_mod_two, even]
  have up : readEr t spNum + 4#32 = readEr s spNum := by rw [entered.sp.1, pushedSp, BitVec.sub_add_cancel]
  have restored : OnlyEr t (bumpEr t spNum 4#32) spNum (readEr s spNum) := up ▸ onlyEr_writeEr t spNum _
  exact ⟨t, _, ht, rte.trans (jumpTo_even even'), hback, exceptionFrame_ccr s, entered.sp.er_restored restored⟩

end Sys2Proof.Machine
end

section
/-!
SUPPORT. The block transfer (spec/47_block_transfer.md R420 to R423): what the move of one byte changes, what a loop of
such moves adds up to, and the obligation about EEPMOV.
-/

namespace Sys2Proof.Machine

variable {i : Instr} {s t u : State} {put : Long → Nat → Long} {x y : Long} {n : Nat}

/-! ### Addresses in a block -/

/-- The address in a register moves on with it, modulo the size of the space. -/
theorem addrOf_add_ofNat (v : Long) (k : Nat) : addrOf (v + BitVec.ofNat 32 k) = addrOf v + BitVec.ofNat 24 k := by
  apply BitVec.eq_of_toNat_eq
  simp only [addrOf_toNat, BitVec.toNat_add, BitVec.toNat_ofNat]
  omega

/-- An address in the rest of a block, counted from the start of the block. -/
theorem add_one_add_ofNat (a : Addr) (k : Nat) : a + 1#24 + BitVec.ofNat 24 k = a + BitVec.ofNat 24 (k + 1) := by
  rw [BitVec.ofNat_add]
  ac_rfl

/-- The bytes of a block that is not longer than the address space of either mode lie at different bus addresses. -/
theorem busAddr_block_ne (p : Platform) (a : Addr) {j k : Nat} (hj : j < 65536) (hk : k < 65536) (h : j ≠ k) :
    busAddr p (a + BitVec.ofNat 24 j) ≠ busAddr p (a + BitVec.ofNat 24 k) := by
  simp only [busAddr_eq_mod, BitVec.toNat_add, BitVec.toNat_ofNat]
  have := a.isLt
  cases p.mode <;> simp only <;> omega

/-! ### Bytes moved -/

/-- From `s` to `t` these cells have been stored by `n` moves of a byte, which leave `x` in ER4 (R422). -/
structure Moved (s t : State) (n : Nat) (cells : List (Addr × Byte)) (x : Long) : Prop where
  er4 : readEr t 4#3 = x
  er5 : readEr t 5#3 = readEr s 5#3 + BitVec.ofNat 32 n
  er6 : readEr t 6#3 = readEr s 6#3 + BitVec.ofNat 32 n
  others : ∀ m, m ≠ 4#3 → m ≠ 5#3 → m ≠ 6#3 → readEr t m = readEr s m
  memory : MemoryAfter s t cells
  ccr : t.ccr = s.ccr
  pc : t.pc = s.pc
  env : EnvKept s t

theorem Moved.refl (s : State) : Moved s s 0 [] (readEr s 4#3) where
  er4 := rfl
  er5 := (BitVec.add_zero _).symm
  er6 := (BitVec.add_zero _).symm
  others _ _ _ _ := rfl
  memory := memoryAfter_nil rfl rfl rfl
  ccr := rfl
  pc := rfl
  env := ⟨rfl, rfl, rfl, rfl⟩

/-- A byte moved, and then the rest of its block. -/
theorem Moved.cons {c : Addr × Byte} {cells : List (Addr × Byte)} (h : Moved s u 1 [c] y) (k : Moved u t n cells x)
    (apart : ∀ d ∈ cells, busAddr s.platform c.1 ≠ busAddr s.platform d.1) : Moved s t (n + 1) (c :: cells) x where
  er4 := k.er4
  er5 := by rw [k.er5, h.er5, BitVec.add_assoc, ← BitVec.ofNat_add, Nat.add_comm]
  er6 := by rw [k.er6, h.er6, BitVec.add_assoc, ← BitVec.ofNat_add, Nat.add_comm]
  others m h4 h5 h6 := (k.others m h4 h5 h6).trans (h.others m h4 h5 h6)
  memory := h.memory.append k.memory h.env.platform (by simpa using apart)
  ccr := k.ccr.trans h.ccr
  pc := k.pc.trans h.pc
  env := ⟨k.env.sleeping.trans h.env.sleeping, k.env.irq.trans h.env.irq,
    k.env.startPending.trans h.env.startPending, k.env.platform.trans h.env.platform⟩

theorem Moved.blockSource_eq {cells : List (Addr × Byte)} (h : Moved s t 1 cells x) :
    blockSource t = blockSource s + 1#24 :=
  (congrArg addrOf h.er5).trans (addrOf_add_ofNat _ 1)

theorem Moved.blockTarget_eq {cells : List (Addr × Byte)} (h : Moved s t 1 cells x) :
    blockTarget t = blockTarget s + 1#24 :=
  (congrArg addrOf h.er6).trans (addrOf_add_ofNat _ 1)

/-- The loop moves one byte, where it can be read and its destination is `ram`, and goes on with the rest (R422). -/
theorem moveBlock_succ (put : Long → Nat → Long) (n : Nat) {b : Byte} (hr : readByte s (blockSource s) = .next b)
    (ram : classOf s.platform (busAddr s.platform (blockTarget s)) = .ram) :
    ∃ u, moveBlock s (n + 1) put = moveBlock u n put ∧ Moved s u 1 [(blockTarget s, b)] (put (readEr s 4#3) n) := by
  obtain ⟨w, hw⟩ := ((writeByte_writes (blockTarget s) b).complete_iff s).2 (by simpa [Writable] using ram)
  have kept := writeByte_memoryOnly hw
  have stored := writeByte_memoryAfter hw
  have registers := readEr_congr kept.er
  refine ⟨_, (andThen_of_next hr).trans (andThen_of_next hw), ?_⟩
  exact {
    er4 := by simp [readEr_bumpEr, registers]
    er5 := by simp [readEr_writeEr, readEr_bumpEr, registers]
    er6 := by simp [readEr_writeEr, readEr_bumpEr, registers]
    others := fun m h4 h5 h6 => by simp [readEr_writeEr, readEr_bumpEr, registers, h4, h5, h6]
    -- What the write has done to memory holds of the state with its registers changed as it stands.
    memory := stored
    ccr := kept.ccr
    pc := kept.pc
    env := ⟨kept.sleeping, kept.irq, kept.startPending, kept.platform⟩ }

/-! ### A block that does not overlap its copy -/

theorem blockCells_succ (b : Nat → Byte) (hu : blockTarget u = blockTarget s + 1#24) :
    blockCells s (n + 1) b = (blockTarget s, b 0) :: blockCells u n fun k => b (k + 1) := by
  simp [blockCells, List.range_succ_eq_map, hu, add_one_add_ofNat, Function.comp_def]

/-- When the first byte has been moved, the rest of the block is ready. -/
theorem BlockReady.rest {b : Nat → Byte} (h : BlockReady s (n + 1) b) (hm : Moved s u 1 [(blockTarget s, b 0)] x) :
    BlockReady u n fun k => b (k + 1) := by
  constructor <;> simp only [hm.blockSource_eq, hm.blockTarget_eq, hm.env.platform, add_one_add_ofNat]
  case source =>
    intro k hk
    rw [hm.memory.readByte_other, h.source (k + 1) (by omega)]
    have apart := (h.apart (k + 1) (by omega) 0 (by omega)).symm
    simpa using apart
  case target => exact fun k hk => h.target (k + 1) (by omega)
  case apart => exact fun j hj k hk => h.apart (j + 1) (by omega) (k + 1) (by omega)

/-- The loop copies a block that is ready; ER4, which holds the count as `put` writes it, holds 0 at the end. -/
theorem moveBlock_copies (hput : ∀ m n, put (put x m) n = put x n) {b : Nat → Byte} (ready : BlockReady s n b)
    (hn : n ≤ 65536) (h4 : readEr s 4#3 = put x n) :
    ∃ t, moveBlock s n put = .next t ∧ Moved s t n (blockCells s n b) (put x 0) := by
  induction n generalizing s b with
  | zero => exact ⟨s, rfl, h4 ▸ Moved.refl s⟩
  | succ n ih =>
    have first := ready.source 0 (by omega)
    have ram := ready.target 0 (by omega)
    rw [BitVec.add_zero] at first ram
    obtain ⟨u, hu, moved⟩ := moveBlock_succ put n first ram
    obtain ⟨t, ht, rest⟩ := ih (ready.rest moved) (by omega) (by rw [moved.er4, h4, hput])
    refine ⟨t, hu.trans ht, blockCells_succ b moved.blockTarget_eq ▸ moved.cons rest fun d hd => ?_⟩
    obtain ⟨k, hk, rfl⟩ := List.mem_map.1 hd
    rw [List.mem_range] at hk
    have apart := busAddr_block_ne s.platform (blockTarget s) (j := 0) (k := k + 1) (by omega) (by omega) (by omega)
    simpa [moved.blockTarget_eq, add_one_add_ofNat] using apart

/-- The copy as the completion of an instruction whose meaning is the loop. -/
theorem completes_of_moveBlock (h : exec i s = moveBlock s n put) (hput : ∀ x m n, put (put x m) n = put x n)
    (h4 : put (readEr s 4#3) n = readEr s 4#3) (hn : n ≤ 65536) {b : Nat → Byte} (ready : BlockReady s n b) :
    Completes i s [] (blockCells s n b) fun t => t.pc = s.pc ∧ readEr t 4#3 = put (readEr s 4#3) 0 ∧
      readEr t 5#3 = readEr s 5#3 + BitVec.ofNat 32 n ∧ readEr t 6#3 = readEr s 6#3 + BitVec.ofNat 32 n ∧
      ∀ m, m ≠ 4#3 → m ≠ 5#3 → m ≠ 6#3 → readEr t m = readEr s m := by
  obtain ⟨t, ht, moved⟩ := moveBlock_copies (hput _) ready hn h4.symm
  exact ⟨t, h.trans ht, flagsAfter_nil moved.ccr, moved.memory, moved.env, moved.pc, moved.er4, moved.er5, moved.er6,
    moved.others⟩

/-! ### The fill by overlap -/

/-- Where the destination is one byte past the source, every byte moved is the same one: each address that holds it
keeps it, and the destination comes to hold it (R423). -/
theorem moveBlock_fills {b : Byte} (put : Long → Nat → Long) (n : Nat) (adjacent : readEr s 6#3 = readEr s 5#3 + 1#32)
    (hr : readByte s (blockSource s) = .next b)
    (ram : ∀ k < n, classOf s.platform (busAddr s.platform (blockTarget s + BitVec.ofNat 24 k)) = .ram) :
    ∃ t, moveBlock s n put = .next t ∧ (∀ a, readByte s a = .next b → readByte t a = .next b) ∧
      ∀ k < n, readByte t (blockTarget s + BitVec.ofNat 24 k) = .next b := by
  induction n generalizing s with
  | zero => exact ⟨s, rfl, fun _ ha => ha, fun k hk => absurd hk k.not_lt_zero⟩
  | succ n ih =>
    obtain ⟨u, hu, moved⟩ := moveBlock_succ put n hr (by simpa using ram 0 (by omega))
    have first : readByte u (blockTarget s) = .next b :=
      moved.memory.readByte_cell (cellsApart_singleton _ _) (List.mem_singleton_self _)
    have keeps (a : Addr) (ha : readByte s a = .next b) : readByte u a = .next b := by
      rw [moved.memory.1, List.find?_singleton, ha]
      split_ifs <;> rfl
    have source : blockSource u = blockTarget s := by
      rw [moved.blockSource_eq]
      exact ((congrArg addrOf adjacent).trans (addrOf_add_ofNat _ 1)).symm
    obtain ⟨t, ht, kept, filled⟩ := ih (s := u) (by rw [moved.er6, moved.er5, adjacent]) (source ▸ first) fun k hk => by
      rw [moved.env.platform, moved.blockTarget_eq, add_one_add_ofNat]
      exact ram (k + 1) (by omega)
    refine ⟨t, hu.trans ht, fun a ha => kept a (keeps a ha), fun k hk => ?_⟩
    cases k with
    | zero => simpa using kept _ first
    | succ k =>
      rw [← add_one_add_ofNat, ← moved.blockTarget_eq]
      exact filled k (by omega)

/-! ### The obligation -/

/-- The low part of a value replaced twice is replaced by the second. -/
theorem putLow_putLow {v w : Nat} (x : BitVec (v + w)) (m n : Nat) :
    (x.extractLsb' w v ++ BitVec.ofNat w m).extractLsb' w v ++ BitVec.ofNat w n =
      x.extractLsb' w v ++ BitVec.ofNat w n := by
  rw [BitVec.extractLsb'_append_eq_left]

/-- The low part of a value replaced by its own number. -/
theorem putLow_self {v w : Nat} (x : BitVec (v + w)) :
    x.extractLsb' w v ++ BitVec.ofNat w (x.toNat % 2 ^ w) = x := by
  rw [← toNat_extractLsb'_zero, BitVec.ofNat_toNat, BitVec.setWidth_eq]
  exact BitVec.extractLsb'_append_extractLsb'

/-- What EEPMOV.B writes into ER4: the count is R4L (R420). -/
def putR4L (x : Long) (n : Nat) : Long := x.extractLsb' 8 24 ++ BitVec.ofNat 8 n

/-- What EEPMOV.W writes into ER4: the count is R4 (R421). -/
def putR4 (x : Long) (n : Nat) : Long := x.extractLsb' 16 16 ++ BitVec.ofNat 16 n

theorem exec_eepmovB (s : State) : exec .eepmovB s = moveBlock s ((readEr s 4#3).toNat % 256) putR4L :=
  congrArg (moveBlock s · putR4L) (toNat_extractLsb'_zero (readEr s 4#3) 8)

theorem exec_eepmovW (s : State) : exec .eepmovW s = moveBlock s ((readEr s 4#3).toNat % 65536) putR4 :=
  congrArg (moveBlock s · putR4) (toNat_extractLsb'_zero (readEr s 4#3) 16)

/-- Settles O44: both forms are the loop with the count in their part of ER4, and the fill is the loop on a block that
overlaps its copy by all but one byte. -/
theorem blockTransfer : Obligations.BlockTransfer := by
  refine fun s => ⟨fun b ready => ?_, fun b ready => ?_, fun b adjacent hr ram => ?_⟩
  · have short : (readEr s 4#3).toNat % 256 ≤ 65536 := by omega
    exact completes_of_moveBlock (exec_eepmovB s) (putLow_putLow (v := 24) (w := 8)) (putLow_self (v := 24) (w := 8) _)
      short ready
  · have short : (readEr s 4#3).toNat % 65536 ≤ 65536 := by omega
    exact completes_of_moveBlock (exec_eepmovW s) (putLow_putLow (v := 16) (w := 16))
      (putLow_self (v := 16) (w := 16) _) short ready
  · obtain ⟨t, ht, -, filled⟩ := moveBlock_fills putR4L _ adjacent hr ram
    exact ⟨t, (exec_eepmovB s).trans ht, filled⟩

end Sys2Proof.Machine
end

section
/-!
SUPPORT. The exception check and the start of a run (spec/60_exceptions.md R441 to R446;
spec/70_reset_and_hazards.md R481 to R483): which request is accepted, what a step does with and without one, and the
obligations about them.
-/

namespace Sys2Proof.Machine

variable {s : State} {r : Request} {target : Addr}

/-! ### The request accepted -/

/-- Something is chosen from every list but the empty one (R446). -/
theorem chooseRequest_eq_none {l : List Request} : chooseRequest l = none ↔ l = [] := by
  unfold chooseRequest
  cases h : l.find? fun r => r.nmi with
  | none => simp
  | some r =>
    have member := List.mem_of_find?_eq_some h
    simp [List.ne_nil_of_mem member]

/-- The check accepts nothing exactly if nothing that is presented is acceptable (R444). -/
theorem acceptedRequest_eq_none :
    acceptedRequest s = none ↔ ∀ r ∈ s.irq.headD [], ¬ acceptable s r = true := by
  rw [acceptedRequest, chooseRequest_eq_none, List.filter_eq_nil_iff]

theorem exists_acceptedRequest_iff :
    (∃ r, acceptedRequest s = some r) ↔ ∃ r ∈ s.irq.headD [], acceptable s r = true := by
  rw [← Option.ne_none_iff_exists', ne_eq, acceptedRequest_eq_none]
  simp

/-- Where UI is no mask, I alone decides on a maskable request (R441). -/
theorem acceptable_of_not_uiIsMask (h : s.platform.uiIsMask = false) (r : Request) :
    acceptable s r = true ↔ r.nmi = true ∨ ccrGet s.ccr .i = false := by
  simp [acceptable, h]

/-- Settles O40: what the check accepts, by how it chooses; what is acceptable, by the masks. -/
theorem requestChosen : Obligations.RequestChosen := by
  refine fun s => ⟨exists_acceptedRequest_iff, fun r => acceptedRequest_spec, acceptable_of_not_uiIsMask,
    fun hui r => ⟨fun hi hu => ?_, fun hi hu => ?_⟩⟩ <;> simp [acceptable, hui, hi, hu]

/-! ### A step with an accepted request, and without one -/

/-- The exception check changes nothing that an entry looks at. -/
theorem entryReady_afterCheck {v : VectorNum} (h : EntryReady s v target) : EntryReady (afterCheck s) v target :=
  ⟨h.frame, h.vector, h.apart, h.even⟩

theorem step_eq_exceptionEntry (hp : s.startPending = false) (hr : acceptedRequest s = some r) :
    step s = exceptionEntry r.vector (afterCheck s) := by
  simp [step, checkThen, hp, hr]

/-- Settles O38: the step is the exception entry of the request's vector, after the check. -/
theorem interruptAccepted : Obligations.InterruptAccepted := by
  intro s r target hp hr ready
  obtain ⟨t, ht, sp, ccr, frame, pc, env⟩ := exceptionEntry_entered (entryReady_afterCheck ready)
  refine ⟨t, _, (step_eq_exceptionEntry hp hr).trans ht, sp, fun f => ?_, frameCells_eq_longCells s _ ▸ frame, pc,
    env.sleeping, env.irq, env.startPending.trans hp, env.platform⟩
  rw [ccr]
  exact flagsAfter_ccrPut .i true f

/-- I masks the maskable requests where UI is no mask (R441). -/
theorem acceptedRequest_masked (hui : s.platform.uiIsMask = false) (hi : ccrGet s.ccr .i = true)
    (maskable : ∀ r ∈ s.irq.headD [], r.nmi = false) : acceptedRequest s = none :=
  acceptedRequest_eq_none.2 fun r hr => by
    rw [acceptable_of_not_uiIsMask hui, maskable r hr, hi]
    simp

/-- Settles O39: no request is accepted, and none is where none is presented; a sleeping CPU then stays asleep, and one
that is awake runs the same instruction in both cases. -/
theorem maskedRequestsHeld : Obligations.MaskedRequestsHeld := by
  intro s hp hui hi maskable
  have none_accepted := acceptedRequest_masked hui hi maskable
  have none_presented : acceptedRequest (s.setIrq ([] :: s.irq.tail)) = none := rfl
  refine ⟨fun asleep => ?_, fun awake => ?_⟩
  · exact sleepBit.2 s hp asleep none_accepted
  · calc
      step s = runInstr (s.setIrq s.irq.tail) := step_eq_runInstr hp awake none_accepted
      _ = step (s.setIrq ([] :: s.irq.tail)) :=
        (step_eq_runInstr (s := s.setIrq ([] :: s.irq.tail)) hp awake none_presented).symm

/-! ### Reset and the start sequence -/

/-- The start sequence reads the vector as it is before, and jumps with I set (R481). -/
theorem step_eq_jumpTo (hp : s.startPending = true) (hv : readVector s ⟨0, by decide⟩ = .next target) :
    step s = jumpTo ((s.setStartPending false).setCcr (ccrPut s.ccr .i true)) target := by
  rw [step, if_pos hp]
  exact andThen_of_next hv

/-- Settles O52: the start sequence, whose name the model's definition has, is a jump to the address in entry 0. -/
theorem startSequence_loads_vector : Obligations.StartSequence := by
  refine ⟨fun s target hp hv => ⟨fun even => ?_, fun odd => ?_⟩, rfl, rfl, rfl⟩
  · exact ⟨_, (step_eq_jumpTo hp hv).trans (jumpTo_even even), rfl, rfl, flagsAfter_ccrPut .i true,
      memoryAfter_nil rfl rfl rfl, rfl, rfl, rfl, rfl⟩
  · exact (step_eq_jumpTo hp hv).trans (jumpTo_odd odd)

/-- Nothing has been stored when a run starts, so that the load image and PC decide (R483). -/
theorem inv_of_stored_nil (hs : s.stored = []) (hm : s.mem.wf) (hpc : s.pc.toNat % 2 = 0) : s.Inv where
  memory := hm
  storedRising := hs ▸ .nil
  storedHeld := by simp [hs]
  pcEven := by rw [getLsbD_zero_eq_odd, hpc]; rfl

theorem startVector_inv (p : Platform) {image : Memory} (irq : List (List Request)) (h : image.wf) :
    (State.startVector p image irq).Inv :=
  inv_of_stored_nil rfl h rfl

/-- Settles O51: every start state has nothing stored; reset has nothing loaded besides. -/
theorem resetMeetsInvariant : Obligations.ResetMeetsInvariant :=
  ⟨startVector_inv _ _ ⟨.nil, nofun⟩, fun p _ irq h => startVector_inv p irq h,
    fun _ _ _ _ _ h even => inv_of_stored_nil rfl h even⟩

end Sys2Proof.Machine
end
